-- ==== Sys2Proof/Word.lean ====
section
/-! DEFINITION. The two word types of the engine (00_scope.md R7, R9): an 8-bit byte and a 16-bit address.
`+` and `-` on them are modulo 256 and modulo 65536, as R9 says. -/

namespace Sys2Proof

/-- The u8 of R9: data registers, the stack pointer, memory bytes and the 8-bit operand. -/
abbrev Byte := BitVec 8

/-- The u16 of R9: the program counter, memory addresses and the 16-bit operand. -/
abbrev Addr := BitVec 16

end Sys2Proof
end

