-- ==== Sys2Proof/Config.lean ====
section
/-! DEFINITION. What is fixed for the machine: the four named parameters of 00_scope.md R8 with the spec's defaults,
and the three fixed addresses of 20_memory.md R72. The parameters are plain data; a state carries the values it was
given (log 2). -/

namespace Sys2Proof

/-- `DECIMAL_POLICY` of R8 and R236: what ADC and SBC do when D = 1. -/
inductive DecimalPolicy where
  | binary
  | refuse
  deriving DecidableEq, Repr

/-- The four parameters "the model receives ... as an argument" (R8). -/
structure Params where
  /-- `DECIMAL_POLICY`, decision D3. -/
  decimalPolicy : DecimalPolicy
  /-- `BRK_SETS_I`, decision D10. -/
  brkSetsI : Bool
  /-- `ZP_PTR_WRAP`, decision D13. -/
  zpPtrWrap : Bool
  /-- `JMP_IND_PAGE_WRAP`, decision D14. -/
  jmpIndPageWrap : Bool
  deriving DecidableEq, Repr

/-- The default of each parameter (R8). -/
def Params.defaults : Params :=
  { decimalPolicy := .binary, brkSetsI := false, zpPtrWrap := true, jmpIndPageWrap := true }

/-- The base of the stack page (R72). -/
def stackBase : Addr := 0x0100#16

/-- The reset vector's low byte (R72); the high byte is at the next address. -/
def resetVector : Addr := 0xFFFC#16

/-- The address `load` copies an image to (R72, R377). -/
def loadBase : Addr := 0x8000#16

end Sys2Proof
end

