-- ==== Sys2Proof/Syntax.lean ====
section
/-! DEFINITION. The syntax of the instruction set: the 56 mnemonics (30_encoding.md R109), the three formats
(R101 to R103), the thirteen addressing-mode tags (R107, 41_addressing_modes.md), the operand of each mode, the
descriptor (R107), and `Instr`, one constructor per row of spec/opcode_table.json. -/

namespace Sys2Proof

/-- The instruction kind of a descriptor: one of the 56 mnemonics (R107, R109). Each line names its semantic rule. -/
inductive Kind where
  | lda  -- R200
  | ldx  -- R201
  | ldy  -- R202
  | sta  -- R203
  | stx  -- R204
  | sty  -- R205
  | tax  -- R206
  | txa  -- R207
  | tay  -- R208
  | tya  -- R209
  | tsx  -- R210
  | txs  -- R211
  | adc  -- R231
  | sbc  -- R232
  | and  -- R233
  | ora  -- R234
  | eor  -- R235
  | asl  -- R251
  | lsr  -- R252
  | rol  -- R253
  | ror  -- R254
  | inc  -- R255
  | dec  -- R256
  | inx  -- R257
  | iny  -- R258
  | dex  -- R259
  | dey  -- R260
  | cmp  -- R262
  | cpx  -- R263
  | cpy  -- R264
  | bcc  -- R281
  | bcs  -- R282
  | beq  -- R283
  | bne  -- R284
  | bmi  -- R285
  | bpl  -- R286
  | bvc  -- R287
  | bvs  -- R288
  | jmp  -- R289
  | jsr  -- R290
  | rts  -- R291
  | rti  -- R292
  | pha  -- R310
  | php  -- R311
  | pla  -- R312
  | plp  -- R313
  | clc  -- R314
  | sec  -- R315
  | cli  -- R316
  | sei  -- R317
  | cld  -- R318
  | sed  -- R319
  | clv  -- R320
  | bit  -- R321
  | brk  -- R322
  | nop  -- R323
  deriving DecidableEq, Repr

/-- The three instruction formats, by their operand bytes (R101 to R103). -/
inductive Format where
  /-- Opcode only (R101). -/
  | f1
  /-- Opcode and one operand byte (R102). -/
  | f2
  /-- Opcode and two operand bytes, low byte first (R103). -/
  | f3
  deriving DecidableEq, Repr

/-- The thirteen addressing-mode tags: eleven resolvable modes and two tags that are not resolved (R170). -/
inductive AddrMode where
  | immediate | zeroPage | zeroPageX | zeroPageY | absolute | absoluteX | absoluteY
  | indirectX | indirectY | relative | indirect | accumulator | implied
  deriving DecidableEq, Repr

/-- The format each mode uses (R101 to R103). -/
def AddrMode.format : AddrMode → Format
  | .implied | .accumulator => .f1
  | .immediate | .zeroPage | .zeroPageX | .zeroPageY | .indirectX | .indirectY | .relative => .f2
  | .absolute | .absoluteX | .absoluteY | .indirect => .f3

/-- An addressing mode together with the operand its instruction bytes carry (R105): `op8` for format F2, `op16` for
format F3, nothing for F1. -/
inductive Operand where
  | immediate (v : Byte)
  | zeroPage (zp : Byte)
  | zeroPageX (zp : Byte)
  | zeroPageY (zp : Byte)
  | absolute (w : Addr)
  | absoluteX (w : Addr)
  | absoluteY (w : Addr)
  | indirectX (zp : Byte)
  | indirectY (zp : Byte)
  | relative (d : Byte)
  | indirect (w : Addr)
  | accumulator
  | implied
  deriving DecidableEq, Repr

/-- The mode tag of an operand. -/
def Operand.mode : Operand → AddrMode
  | .immediate _ => .immediate
  | .zeroPage _ => .zeroPage
  | .zeroPageX _ => .zeroPageX
  | .zeroPageY _ => .zeroPageY
  | .absolute _ => .absolute
  | .absoluteX _ => .absoluteX
  | .absoluteY _ => .absoluteY
  | .indirectX _ => .indirectX
  | .indirectY _ => .indirectY
  | .relative _ => .relative
  | .indirect _ => .indirect
  | .accumulator => .accumulator
  | .implied => .implied

/-- One row of the opcode table (R107): `{instruction_kind, opcode_byte, length_in_bytes, base_cycles,
addressing_mode}`. `baseCycles` is informational: no rule and no definition of the machine reads it (R390, log 9). -/
structure Descriptor where
  opcode : Byte
  kind : Kind
  mode : AddrMode
  length : Nat
  baseCycles : Nat
  deriving DecidableEq, Repr

/-- The instructions: one constructor per row of spec/opcode_table.json, with the row's operand. -/
inductive Instr where
  /-- `LDA #$nn`, opcode 0xA9, Immediate (R200). -/
  | ldaImm (v : Byte)
  /-- `LDA $nn`, opcode 0xA5, ZeroPage (R200). -/
  | ldaZp (zp : Byte)
  /-- `LDA $nn,X`, opcode 0xB5, ZeroPageX (R200). -/
  | ldaZpX (zp : Byte)
  /-- `LDA $nnnn`, opcode 0xAD, Absolute (R200). -/
  | ldaAbs (w : Addr)
  /-- `LDA $nnnn,X`, opcode 0xBD, AbsoluteX (R200). -/
  | ldaAbsX (w : Addr)
  /-- `LDA $nnnn,Y`, opcode 0xB9, AbsoluteY (R200). -/
  | ldaAbsY (w : Addr)
  /-- `LDA ($nn,X)`, opcode 0xA1, IndirectX (R200). -/
  | ldaIndX (zp : Byte)
  /-- `LDA ($nn),Y`, opcode 0xB1, IndirectY (R200). -/
  | ldaIndY (zp : Byte)
  /-- `LDX #$nn`, opcode 0xA2, Immediate (R201). -/
  | ldxImm (v : Byte)
  /-- `LDX $nn`, opcode 0xA6, ZeroPage (R201). -/
  | ldxZp (zp : Byte)
  /-- `LDX $nn,Y`, opcode 0xB6, ZeroPageY (R201). -/
  | ldxZpY (zp : Byte)
  /-- `LDX $nnnn`, opcode 0xAE, Absolute (R201). -/
  | ldxAbs (w : Addr)
  /-- `LDX $nnnn,Y`, opcode 0xBE, AbsoluteY (R201). -/
  | ldxAbsY (w : Addr)
  /-- `LDY #$nn`, opcode 0xA0, Immediate (R202). -/
  | ldyImm (v : Byte)
  /-- `LDY $nn`, opcode 0xA4, ZeroPage (R202). -/
  | ldyZp (zp : Byte)
  /-- `LDY $nn,X`, opcode 0xB4, ZeroPageX (R202). -/
  | ldyZpX (zp : Byte)
  /-- `LDY $nnnn`, opcode 0xAC, Absolute (R202). -/
  | ldyAbs (w : Addr)
  /-- `LDY $nnnn,X`, opcode 0xBC, AbsoluteX (R202). -/
  | ldyAbsX (w : Addr)
  /-- `STA $nn`, opcode 0x85, ZeroPage (R203). -/
  | staZp (zp : Byte)
  /-- `STA $nn,X`, opcode 0x95, ZeroPageX (R203). -/
  | staZpX (zp : Byte)
  /-- `STA $nnnn`, opcode 0x8D, Absolute (R203). -/
  | staAbs (w : Addr)
  /-- `STA $nnnn,X`, opcode 0x9D, AbsoluteX (R203). -/
  | staAbsX (w : Addr)
  /-- `STA $nnnn,Y`, opcode 0x99, AbsoluteY (R203). -/
  | staAbsY (w : Addr)
  /-- `STA ($nn,X)`, opcode 0x81, IndirectX (R203). -/
  | staIndX (zp : Byte)
  /-- `STA ($nn),Y`, opcode 0x91, IndirectY (R203). -/
  | staIndY (zp : Byte)
  /-- `STX $nn`, opcode 0x86, ZeroPage (R204). -/
  | stxZp (zp : Byte)
  /-- `STX $nn,Y`, opcode 0x96, ZeroPageY (R204). -/
  | stxZpY (zp : Byte)
  /-- `STX $nnnn`, opcode 0x8E, Absolute (R204). -/
  | stxAbs (w : Addr)
  /-- `STY $nn`, opcode 0x84, ZeroPage (R205). -/
  | styZp (zp : Byte)
  /-- `STY $nn,X`, opcode 0x94, ZeroPageX (R205). -/
  | styZpX (zp : Byte)
  /-- `STY $nnnn`, opcode 0x8C, Absolute (R205). -/
  | styAbs (w : Addr)
  /-- `TAX`, opcode 0xAA, Implied (R206). -/
  | tax
  /-- `TXA`, opcode 0x8A, Implied (R207). -/
  | txa
  /-- `TAY`, opcode 0xA8, Implied (R208). -/
  | tay
  /-- `TYA`, opcode 0x98, Implied (R209). -/
  | tya
  /-- `TSX`, opcode 0xBA, Implied (R210). -/
  | tsx
  /-- `TXS`, opcode 0x9A, Implied (R211). -/
  | txs
  /-- `ADC #$nn`, opcode 0x69, Immediate (R231). -/
  | adcImm (v : Byte)
  /-- `ADC $nn`, opcode 0x65, ZeroPage (R231). -/
  | adcZp (zp : Byte)
  /-- `ADC $nn,X`, opcode 0x75, ZeroPageX (R231). -/
  | adcZpX (zp : Byte)
  /-- `ADC $nnnn`, opcode 0x6D, Absolute (R231). -/
  | adcAbs (w : Addr)
  /-- `ADC $nnnn,X`, opcode 0x7D, AbsoluteX (R231). -/
  | adcAbsX (w : Addr)
  /-- `ADC $nnnn,Y`, opcode 0x79, AbsoluteY (R231). -/
  | adcAbsY (w : Addr)
  /-- `ADC ($nn,X)`, opcode 0x61, IndirectX (R231). -/
  | adcIndX (zp : Byte)
  /-- `ADC ($nn),Y`, opcode 0x71, IndirectY (R231). -/
  | adcIndY (zp : Byte)
  /-- `SBC #$nn`, opcode 0xE9, Immediate (R232). -/
  | sbcImm (v : Byte)
  /-- `SBC $nn`, opcode 0xE5, ZeroPage (R232). -/
  | sbcZp (zp : Byte)
  /-- `SBC $nn,X`, opcode 0xF5, ZeroPageX (R232). -/
  | sbcZpX (zp : Byte)
  /-- `SBC $nnnn`, opcode 0xED, Absolute (R232). -/
  | sbcAbs (w : Addr)
  /-- `SBC $nnnn,X`, opcode 0xFD, AbsoluteX (R232). -/
  | sbcAbsX (w : Addr)
  /-- `SBC $nnnn,Y`, opcode 0xF9, AbsoluteY (R232). -/
  | sbcAbsY (w : Addr)
  /-- `SBC ($nn,X)`, opcode 0xE1, IndirectX (R232). -/
  | sbcIndX (zp : Byte)
  /-- `SBC ($nn),Y`, opcode 0xF1, IndirectY (R232). -/
  | sbcIndY (zp : Byte)
  /-- `AND #$nn`, opcode 0x29, Immediate (R233). -/
  | andImm (v : Byte)
  /-- `AND $nn`, opcode 0x25, ZeroPage (R233). -/
  | andZp (zp : Byte)
  /-- `AND $nn,X`, opcode 0x35, ZeroPageX (R233). -/
  | andZpX (zp : Byte)
  /-- `AND $nnnn`, opcode 0x2D, Absolute (R233). -/
  | andAbs (w : Addr)
  /-- `AND $nnnn,X`, opcode 0x3D, AbsoluteX (R233). -/
  | andAbsX (w : Addr)
  /-- `AND $nnnn,Y`, opcode 0x39, AbsoluteY (R233). -/
  | andAbsY (w : Addr)
  /-- `AND ($nn,X)`, opcode 0x21, IndirectX (R233). -/
  | andIndX (zp : Byte)
  /-- `AND ($nn),Y`, opcode 0x31, IndirectY (R233). -/
  | andIndY (zp : Byte)
  /-- `ORA #$nn`, opcode 0x09, Immediate (R234). -/
  | oraImm (v : Byte)
  /-- `ORA $nn`, opcode 0x05, ZeroPage (R234). -/
  | oraZp (zp : Byte)
  /-- `ORA $nn,X`, opcode 0x15, ZeroPageX (R234). -/
  | oraZpX (zp : Byte)
  /-- `ORA $nnnn`, opcode 0x0D, Absolute (R234). -/
  | oraAbs (w : Addr)
  /-- `ORA $nnnn,X`, opcode 0x1D, AbsoluteX (R234). -/
  | oraAbsX (w : Addr)
  /-- `ORA $nnnn,Y`, opcode 0x19, AbsoluteY (R234). -/
  | oraAbsY (w : Addr)
  /-- `ORA ($nn,X)`, opcode 0x01, IndirectX (R234). -/
  | oraIndX (zp : Byte)
  /-- `ORA ($nn),Y`, opcode 0x11, IndirectY (R234). -/
  | oraIndY (zp : Byte)
  /-- `EOR #$nn`, opcode 0x49, Immediate (R235). -/
  | eorImm (v : Byte)
  /-- `EOR $nn`, opcode 0x45, ZeroPage (R235). -/
  | eorZp (zp : Byte)
  /-- `EOR $nn,X`, opcode 0x55, ZeroPageX (R235). -/
  | eorZpX (zp : Byte)
  /-- `EOR $nnnn`, opcode 0x4D, Absolute (R235). -/
  | eorAbs (w : Addr)
  /-- `EOR $nnnn,X`, opcode 0x5D, AbsoluteX (R235). -/
  | eorAbsX (w : Addr)
  /-- `EOR $nnnn,Y`, opcode 0x59, AbsoluteY (R235). -/
  | eorAbsY (w : Addr)
  /-- `EOR ($nn,X)`, opcode 0x41, IndirectX (R235). -/
  | eorIndX (zp : Byte)
  /-- `EOR ($nn),Y`, opcode 0x51, IndirectY (R235). -/
  | eorIndY (zp : Byte)
  /-- `ASL A`, opcode 0x0A, Accumulator (R251). -/
  | aslAcc
  /-- `ASL $nn`, opcode 0x06, ZeroPage (R251). -/
  | aslZp (zp : Byte)
  /-- `ASL $nn,X`, opcode 0x16, ZeroPageX (R251). -/
  | aslZpX (zp : Byte)
  /-- `ASL $nnnn`, opcode 0x0E, Absolute (R251). -/
  | aslAbs (w : Addr)
  /-- `ASL $nnnn,X`, opcode 0x1E, AbsoluteX (R251). -/
  | aslAbsX (w : Addr)
  /-- `LSR A`, opcode 0x4A, Accumulator (R252). -/
  | lsrAcc
  /-- `LSR $nn`, opcode 0x46, ZeroPage (R252). -/
  | lsrZp (zp : Byte)
  /-- `LSR $nn,X`, opcode 0x56, ZeroPageX (R252). -/
  | lsrZpX (zp : Byte)
  /-- `LSR $nnnn`, opcode 0x4E, Absolute (R252). -/
  | lsrAbs (w : Addr)
  /-- `LSR $nnnn,X`, opcode 0x5E, AbsoluteX (R252). -/
  | lsrAbsX (w : Addr)
  /-- `ROL A`, opcode 0x2A, Accumulator (R253). -/
  | rolAcc
  /-- `ROL $nn`, opcode 0x26, ZeroPage (R253). -/
  | rolZp (zp : Byte)
  /-- `ROL $nn,X`, opcode 0x36, ZeroPageX (R253). -/
  | rolZpX (zp : Byte)
  /-- `ROL $nnnn`, opcode 0x2E, Absolute (R253). -/
  | rolAbs (w : Addr)
  /-- `ROL $nnnn,X`, opcode 0x3E, AbsoluteX (R253). -/
  | rolAbsX (w : Addr)
  /-- `ROR A`, opcode 0x6A, Accumulator (R254). -/
  | rorAcc
  /-- `ROR $nn`, opcode 0x66, ZeroPage (R254). -/
  | rorZp (zp : Byte)
  /-- `ROR $nn,X`, opcode 0x76, ZeroPageX (R254). -/
  | rorZpX (zp : Byte)
  /-- `ROR $nnnn`, opcode 0x6E, Absolute (R254). -/
  | rorAbs (w : Addr)
  /-- `ROR $nnnn,X`, opcode 0x7E, AbsoluteX (R254). -/
  | rorAbsX (w : Addr)
  /-- `INC $nn`, opcode 0xE6, ZeroPage (R255). -/
  | incZp (zp : Byte)
  /-- `INC $nn,X`, opcode 0xF6, ZeroPageX (R255). -/
  | incZpX (zp : Byte)
  /-- `INC $nnnn`, opcode 0xEE, Absolute (R255). -/
  | incAbs (w : Addr)
  /-- `INC $nnnn,X`, opcode 0xFE, AbsoluteX (R255). -/
  | incAbsX (w : Addr)
  /-- `DEC $nn`, opcode 0xC6, ZeroPage (R256). -/
  | decZp (zp : Byte)
  /-- `DEC $nn,X`, opcode 0xD6, ZeroPageX (R256). -/
  | decZpX (zp : Byte)
  /-- `DEC $nnnn`, opcode 0xCE, Absolute (R256). -/
  | decAbs (w : Addr)
  /-- `DEC $nnnn,X`, opcode 0xDE, AbsoluteX (R256). -/
  | decAbsX (w : Addr)
  /-- `INX`, opcode 0xE8, Implied (R257). -/
  | inx
  /-- `INY`, opcode 0xC8, Implied (R258). -/
  | iny
  /-- `DEX`, opcode 0xCA, Implied (R259). -/
  | dex
  /-- `DEY`, opcode 0x88, Implied (R260). -/
  | dey
  /-- `CMP #$nn`, opcode 0xC9, Immediate (R262). -/
  | cmpImm (v : Byte)
  /-- `CMP $nn`, opcode 0xC5, ZeroPage (R262). -/
  | cmpZp (zp : Byte)
  /-- `CMP $nn,X`, opcode 0xD5, ZeroPageX (R262). -/
  | cmpZpX (zp : Byte)
  /-- `CMP $nnnn`, opcode 0xCD, Absolute (R262). -/
  | cmpAbs (w : Addr)
  /-- `CMP $nnnn,X`, opcode 0xDD, AbsoluteX (R262). -/
  | cmpAbsX (w : Addr)
  /-- `CMP $nnnn,Y`, opcode 0xD9, AbsoluteY (R262). -/
  | cmpAbsY (w : Addr)
  /-- `CMP ($nn,X)`, opcode 0xC1, IndirectX (R262). -/
  | cmpIndX (zp : Byte)
  /-- `CMP ($nn),Y`, opcode 0xD1, IndirectY (R262). -/
  | cmpIndY (zp : Byte)
  /-- `CPX #$nn`, opcode 0xE0, Immediate (R263). -/
  | cpxImm (v : Byte)
  /-- `CPX $nn`, opcode 0xE4, ZeroPage (R263). -/
  | cpxZp (zp : Byte)
  /-- `CPX $nnnn`, opcode 0xEC, Absolute (R263). -/
  | cpxAbs (w : Addr)
  /-- `CPY #$nn`, opcode 0xC0, Immediate (R264). -/
  | cpyImm (v : Byte)
  /-- `CPY $nn`, opcode 0xC4, ZeroPage (R264). -/
  | cpyZp (zp : Byte)
  /-- `CPY $nnnn`, opcode 0xCC, Absolute (R264). -/
  | cpyAbs (w : Addr)
  /-- `BCC $nnnn`, opcode 0x90, Relative (R281). -/
  | bcc (d : Byte)
  /-- `BCS $nnnn`, opcode 0xB0, Relative (R282). -/
  | bcs (d : Byte)
  /-- `BEQ $nnnn`, opcode 0xF0, Relative (R283). -/
  | beq (d : Byte)
  /-- `BNE $nnnn`, opcode 0xD0, Relative (R284). -/
  | bne (d : Byte)
  /-- `BMI $nnnn`, opcode 0x30, Relative (R285). -/
  | bmi (d : Byte)
  /-- `BPL $nnnn`, opcode 0x10, Relative (R286). -/
  | bpl (d : Byte)
  /-- `BVC $nnnn`, opcode 0x50, Relative (R287). -/
  | bvc (d : Byte)
  /-- `BVS $nnnn`, opcode 0x70, Relative (R288). -/
  | bvs (d : Byte)
  /-- `JMP $nnnn`, opcode 0x4C, Absolute (R289). -/
  | jmpAbs (w : Addr)
  /-- `JMP ($nnnn)`, opcode 0x6C, Indirect (R289). -/
  | jmpInd (w : Addr)
  /-- `JSR $nnnn`, opcode 0x20, Absolute (R290). -/
  | jsr (w : Addr)
  /-- `RTS`, opcode 0x60, Implied (R291). -/
  | rts
  /-- `RTI`, opcode 0x40, Implied (R292). -/
  | rti
  /-- `PHA`, opcode 0x48, Implied (R310). -/
  | pha
  /-- `PHP`, opcode 0x08, Implied (R311). -/
  | php
  /-- `PLA`, opcode 0x68, Implied (R312). -/
  | pla
  /-- `PLP`, opcode 0x28, Implied (R313). -/
  | plp
  /-- `CLC`, opcode 0x18, Implied (R314). -/
  | clc
  /-- `SEC`, opcode 0x38, Implied (R315). -/
  | sec
  /-- `CLI`, opcode 0x58, Implied (R316). -/
  | cli
  /-- `SEI`, opcode 0x78, Implied (R317). -/
  | sei
  /-- `CLD`, opcode 0xD8, Implied (R318). -/
  | cld
  /-- `SED`, opcode 0xF8, Implied (R319). -/
  | sed
  /-- `CLV`, opcode 0xB8, Implied (R320). -/
  | clv
  /-- `BIT $nn`, opcode 0x24, ZeroPage (R321). -/
  | bitZp (zp : Byte)
  /-- `BIT $nnnn`, opcode 0x2C, Absolute (R321). -/
  | bitAbs (w : Addr)
  /-- `BRK`, opcode 0x00, Implied (R322). -/
  | brk
  /-- `NOP`, opcode 0xEA, Implied (R323). -/
  | nop
  deriving DecidableEq, Repr

/-- The mnemonic of an instruction. -/
def Instr.kind : Instr → Kind
  | .ldaImm _ => .lda
  | .ldaZp _ => .lda
  | .ldaZpX _ => .lda
  | .ldaAbs _ => .lda
  | .ldaAbsX _ => .lda
  | .ldaAbsY _ => .lda
  | .ldaIndX _ => .lda
  | .ldaIndY _ => .lda
  | .ldxImm _ => .ldx
  | .ldxZp _ => .ldx
  | .ldxZpY _ => .ldx
  | .ldxAbs _ => .ldx
  | .ldxAbsY _ => .ldx
  | .ldyImm _ => .ldy
  | .ldyZp _ => .ldy
  | .ldyZpX _ => .ldy
  | .ldyAbs _ => .ldy
  | .ldyAbsX _ => .ldy
  | .staZp _ => .sta
  | .staZpX _ => .sta
  | .staAbs _ => .sta
  | .staAbsX _ => .sta
  | .staAbsY _ => .sta
  | .staIndX _ => .sta
  | .staIndY _ => .sta
  | .stxZp _ => .stx
  | .stxZpY _ => .stx
  | .stxAbs _ => .stx
  | .styZp _ => .sty
  | .styZpX _ => .sty
  | .styAbs _ => .sty
  | .tax => .tax
  | .txa => .txa
  | .tay => .tay
  | .tya => .tya
  | .tsx => .tsx
  | .txs => .txs
  | .adcImm _ => .adc
  | .adcZp _ => .adc
  | .adcZpX _ => .adc
  | .adcAbs _ => .adc
  | .adcAbsX _ => .adc
  | .adcAbsY _ => .adc
  | .adcIndX _ => .adc
  | .adcIndY _ => .adc
  | .sbcImm _ => .sbc
  | .sbcZp _ => .sbc
  | .sbcZpX _ => .sbc
  | .sbcAbs _ => .sbc
  | .sbcAbsX _ => .sbc
  | .sbcAbsY _ => .sbc
  | .sbcIndX _ => .sbc
  | .sbcIndY _ => .sbc
  | .andImm _ => .and
  | .andZp _ => .and
  | .andZpX _ => .and
  | .andAbs _ => .and
  | .andAbsX _ => .and
  | .andAbsY _ => .and
  | .andIndX _ => .and
  | .andIndY _ => .and
  | .oraImm _ => .ora
  | .oraZp _ => .ora
  | .oraZpX _ => .ora
  | .oraAbs _ => .ora
  | .oraAbsX _ => .ora
  | .oraAbsY _ => .ora
  | .oraIndX _ => .ora
  | .oraIndY _ => .ora
  | .eorImm _ => .eor
  | .eorZp _ => .eor
  | .eorZpX _ => .eor
  | .eorAbs _ => .eor
  | .eorAbsX _ => .eor
  | .eorAbsY _ => .eor
  | .eorIndX _ => .eor
  | .eorIndY _ => .eor
  | .aslAcc => .asl
  | .aslZp _ => .asl
  | .aslZpX _ => .asl
  | .aslAbs _ => .asl
  | .aslAbsX _ => .asl
  | .lsrAcc => .lsr
  | .lsrZp _ => .lsr
  | .lsrZpX _ => .lsr
  | .lsrAbs _ => .lsr
  | .lsrAbsX _ => .lsr
  | .rolAcc => .rol
  | .rolZp _ => .rol
  | .rolZpX _ => .rol
  | .rolAbs _ => .rol
  | .rolAbsX _ => .rol
  | .rorAcc => .ror
  | .rorZp _ => .ror
  | .rorZpX _ => .ror
  | .rorAbs _ => .ror
  | .rorAbsX _ => .ror
  | .incZp _ => .inc
  | .incZpX _ => .inc
  | .incAbs _ => .inc
  | .incAbsX _ => .inc
  | .decZp _ => .dec
  | .decZpX _ => .dec
  | .decAbs _ => .dec
  | .decAbsX _ => .dec
  | .inx => .inx
  | .iny => .iny
  | .dex => .dex
  | .dey => .dey
  | .cmpImm _ => .cmp
  | .cmpZp _ => .cmp
  | .cmpZpX _ => .cmp
  | .cmpAbs _ => .cmp
  | .cmpAbsX _ => .cmp
  | .cmpAbsY _ => .cmp
  | .cmpIndX _ => .cmp
  | .cmpIndY _ => .cmp
  | .cpxImm _ => .cpx
  | .cpxZp _ => .cpx
  | .cpxAbs _ => .cpx
  | .cpyImm _ => .cpy
  | .cpyZp _ => .cpy
  | .cpyAbs _ => .cpy
  | .bcc _ => .bcc
  | .bcs _ => .bcs
  | .beq _ => .beq
  | .bne _ => .bne
  | .bmi _ => .bmi
  | .bpl _ => .bpl
  | .bvc _ => .bvc
  | .bvs _ => .bvs
  | .jmpAbs _ => .jmp
  | .jmpInd _ => .jmp
  | .jsr _ => .jsr
  | .rts => .rts
  | .rti => .rti
  | .pha => .pha
  | .php => .php
  | .pla => .pla
  | .plp => .plp
  | .clc => .clc
  | .sec => .sec
  | .cli => .cli
  | .sei => .sei
  | .cld => .cld
  | .sed => .sed
  | .clv => .clv
  | .bitZp _ => .bit
  | .bitAbs _ => .bit
  | .brk => .brk
  | .nop => .nop

/-- The addressing mode and operand of an instruction. -/
def Instr.operand : Instr → Operand
  | .ldaImm v => .immediate v
  | .ldaZp zp => .zeroPage zp
  | .ldaZpX zp => .zeroPageX zp
  | .ldaAbs w => .absolute w
  | .ldaAbsX w => .absoluteX w
  | .ldaAbsY w => .absoluteY w
  | .ldaIndX zp => .indirectX zp
  | .ldaIndY zp => .indirectY zp
  | .ldxImm v => .immediate v
  | .ldxZp zp => .zeroPage zp
  | .ldxZpY zp => .zeroPageY zp
  | .ldxAbs w => .absolute w
  | .ldxAbsY w => .absoluteY w
  | .ldyImm v => .immediate v
  | .ldyZp zp => .zeroPage zp
  | .ldyZpX zp => .zeroPageX zp
  | .ldyAbs w => .absolute w
  | .ldyAbsX w => .absoluteX w
  | .staZp zp => .zeroPage zp
  | .staZpX zp => .zeroPageX zp
  | .staAbs w => .absolute w
  | .staAbsX w => .absoluteX w
  | .staAbsY w => .absoluteY w
  | .staIndX zp => .indirectX zp
  | .staIndY zp => .indirectY zp
  | .stxZp zp => .zeroPage zp
  | .stxZpY zp => .zeroPageY zp
  | .stxAbs w => .absolute w
  | .styZp zp => .zeroPage zp
  | .styZpX zp => .zeroPageX zp
  | .styAbs w => .absolute w
  | .tax => .implied
  | .txa => .implied
  | .tay => .implied
  | .tya => .implied
  | .tsx => .implied
  | .txs => .implied
  | .adcImm v => .immediate v
  | .adcZp zp => .zeroPage zp
  | .adcZpX zp => .zeroPageX zp
  | .adcAbs w => .absolute w
  | .adcAbsX w => .absoluteX w
  | .adcAbsY w => .absoluteY w
  | .adcIndX zp => .indirectX zp
  | .adcIndY zp => .indirectY zp
  | .sbcImm v => .immediate v
  | .sbcZp zp => .zeroPage zp
  | .sbcZpX zp => .zeroPageX zp
  | .sbcAbs w => .absolute w
  | .sbcAbsX w => .absoluteX w
  | .sbcAbsY w => .absoluteY w
  | .sbcIndX zp => .indirectX zp
  | .sbcIndY zp => .indirectY zp
  | .andImm v => .immediate v
  | .andZp zp => .zeroPage zp
  | .andZpX zp => .zeroPageX zp
  | .andAbs w => .absolute w
  | .andAbsX w => .absoluteX w
  | .andAbsY w => .absoluteY w
  | .andIndX zp => .indirectX zp
  | .andIndY zp => .indirectY zp
  | .oraImm v => .immediate v
  | .oraZp zp => .zeroPage zp
  | .oraZpX zp => .zeroPageX zp
  | .oraAbs w => .absolute w
  | .oraAbsX w => .absoluteX w
  | .oraAbsY w => .absoluteY w
  | .oraIndX zp => .indirectX zp
  | .oraIndY zp => .indirectY zp
  | .eorImm v => .immediate v
  | .eorZp zp => .zeroPage zp
  | .eorZpX zp => .zeroPageX zp
  | .eorAbs w => .absolute w
  | .eorAbsX w => .absoluteX w
  | .eorAbsY w => .absoluteY w
  | .eorIndX zp => .indirectX zp
  | .eorIndY zp => .indirectY zp
  | .aslAcc => .accumulator
  | .aslZp zp => .zeroPage zp
  | .aslZpX zp => .zeroPageX zp
  | .aslAbs w => .absolute w
  | .aslAbsX w => .absoluteX w
  | .lsrAcc => .accumulator
  | .lsrZp zp => .zeroPage zp
  | .lsrZpX zp => .zeroPageX zp
  | .lsrAbs w => .absolute w
  | .lsrAbsX w => .absoluteX w
  | .rolAcc => .accumulator
  | .rolZp zp => .zeroPage zp
  | .rolZpX zp => .zeroPageX zp
  | .rolAbs w => .absolute w
  | .rolAbsX w => .absoluteX w
  | .rorAcc => .accumulator
  | .rorZp zp => .zeroPage zp
  | .rorZpX zp => .zeroPageX zp
  | .rorAbs w => .absolute w
  | .rorAbsX w => .absoluteX w
  | .incZp zp => .zeroPage zp
  | .incZpX zp => .zeroPageX zp
  | .incAbs w => .absolute w
  | .incAbsX w => .absoluteX w
  | .decZp zp => .zeroPage zp
  | .decZpX zp => .zeroPageX zp
  | .decAbs w => .absolute w
  | .decAbsX w => .absoluteX w
  | .inx => .implied
  | .iny => .implied
  | .dex => .implied
  | .dey => .implied
  | .cmpImm v => .immediate v
  | .cmpZp zp => .zeroPage zp
  | .cmpZpX zp => .zeroPageX zp
  | .cmpAbs w => .absolute w
  | .cmpAbsX w => .absoluteX w
  | .cmpAbsY w => .absoluteY w
  | .cmpIndX zp => .indirectX zp
  | .cmpIndY zp => .indirectY zp
  | .cpxImm v => .immediate v
  | .cpxZp zp => .zeroPage zp
  | .cpxAbs w => .absolute w
  | .cpyImm v => .immediate v
  | .cpyZp zp => .zeroPage zp
  | .cpyAbs w => .absolute w
  | .bcc d => .relative d
  | .bcs d => .relative d
  | .beq d => .relative d
  | .bne d => .relative d
  | .bmi d => .relative d
  | .bpl d => .relative d
  | .bvc d => .relative d
  | .bvs d => .relative d
  | .jmpAbs w => .absolute w
  | .jmpInd w => .indirect w
  | .jsr w => .absolute w
  | .rts => .implied
  | .rti => .implied
  | .pha => .implied
  | .php => .implied
  | .pla => .implied
  | .plp => .implied
  | .clc => .implied
  | .sec => .implied
  | .cli => .implied
  | .sei => .implied
  | .cld => .implied
  | .sed => .implied
  | .clv => .implied
  | .bitZp zp => .zeroPage zp
  | .bitAbs w => .absolute w
  | .brk => .implied
  | .nop => .implied

/-- The addressing-mode tag of an instruction. -/
def Instr.mode (i : Instr) : AddrMode := i.operand.mode

end Sys2Proof
end

