-- ==== Sys2Proof/WellFormed.lean ====
section
/-! DEFINITION. Well-formedness. `Instr` has one constructor per table row and operands of the row's width, so no
ill-formed instruction can be built: every value of `op8` and `op16` is legal (30_encoding.md R122). What can be
ill-formed is a descriptor, the raw record the opcode table is made of (R107): its mode must be one its mnemonic has
(R109) and its length the one its mode's format fixes (R104). `Instr.wf` puts the same question to an instruction. -/

namespace Sys2Proof

/-- The operand bytes of each format (R101 to R103). -/
def Format.operandBytes : Format → Nat
  | .f1 => 0
  | .f2 => 1
  | .f3 => 2

/-- The addressing modes in which each mnemonic has an opcode (R109, and the "Used by" lines of R171 to R183). -/
def Kind.modes : Kind → List AddrMode
  | .lda | .adc | .sbc | .and | .ora | .eor | .cmp =>
    [.immediate, .zeroPage, .zeroPageX, .absolute, .absoluteX, .absoluteY, .indirectX, .indirectY]
  | .ldx =>
    [.immediate, .zeroPage, .zeroPageY, .absolute, .absoluteY]
  | .ldy =>
    [.immediate, .zeroPage, .zeroPageX, .absolute, .absoluteX]
  | .sta =>
    [.zeroPage, .zeroPageX, .absolute, .absoluteX, .absoluteY, .indirectX, .indirectY]
  | .stx =>
    [.zeroPage, .zeroPageY, .absolute]
  | .sty =>
    [.zeroPage, .zeroPageX, .absolute]
  | .tax | .txa | .tay | .tya | .tsx | .txs | .inx | .iny | .dex | .dey | .rts | .rti | .pha | .php | .pla | .plp | .clc | .sec | .cli | .sei | .cld | .sed | .clv | .brk | .nop =>
    [.implied]
  | .asl | .lsr | .rol | .ror =>
    [.accumulator, .zeroPage, .zeroPageX, .absolute, .absoluteX]
  | .inc | .dec =>
    [.zeroPage, .zeroPageX, .absolute, .absoluteX]
  | .cpx | .cpy =>
    [.immediate, .zeroPage, .absolute]
  | .bcc | .bcs | .beq | .bne | .bmi | .bpl | .bvc | .bvs =>
    [.relative]
  | .jmp =>
    [.absolute, .indirect]
  | .jsr =>
    [.absolute]
  | .bit =>
    [.zeroPage, .absolute]

/-- The checks on a descriptor: an addressing mode its mnemonic has (R109), and the length of that mode (R104). -/
def Descriptor.wf (d : Descriptor) : Bool :=
  d.kind.modes.contains d.mode && d.length == 1 + d.mode.format.operandBytes

/-- The check on an instruction: its addressing mode is one its mnemonic has (R109). -/
def Instr.wf (i : Instr) : Bool :=
  i.kind.modes.contains i.mode

end Sys2Proof
end

