-- ==== Sys2Proof/Decode.lean ====
section
/-! DEFINITION. The opcode table (30_encoding.md R108, R109), the decoder (R105, R106, R123) and the encoder. `decode`
looks an opcode byte up in the table of R108, row by row; `encode` writes the opcode of R109, mnemonic by mnemonic; that
the two agree is the round trip.
Byte values, lengths and cycle counts are the spec's, which supplies them from general knowledge (D11, D27; log 8). -/

namespace Sys2Proof

/-- `hi:lo` of R9: the u16 made of two bytes. -/
def word (hi lo : Byte) : Addr := hi ++ lo

/-- `w[7:0]`. -/
def lowByte (w : Addr) : Byte := w.extractLsb' 0 8

/-- `w[15:8]`. -/
def highByte (w : Addr) : Byte := w.extractLsb' 8 8

/-- The instruction length of each mode (R104). -/
def AddrMode.length : AddrMode → Nat
  | .implied | .accumulator => 1
  | .immediate | .zeroPage | .zeroPageX | .zeroPageY | .indirectX | .indirectY | .relative => 2
  | .absolute | .absoluteX | .absoluteY | .indirect => 3

/-- The length in bytes of an instruction with this operand (R104). -/
def Operand.length (o : Operand) : Nat := o.mode.length

/-- The length in bytes of an instruction (R104). -/
def Instr.length (i : Instr) : Nat := i.operand.length

/-! ### The opcode table, one list per row of the map of R108 -/

/-- Row 0x0x of the opcode map (R108). -/
def opcodeRow0 : List Descriptor :=
  [ ⟨0x00, .brk, .implied, 1, 7⟩,
    ⟨0x01, .ora, .indirectX, 2, 6⟩,
    ⟨0x05, .ora, .zeroPage, 2, 3⟩,
    ⟨0x06, .asl, .zeroPage, 2, 5⟩,
    ⟨0x08, .php, .implied, 1, 3⟩,
    ⟨0x09, .ora, .immediate, 2, 2⟩,
    ⟨0x0A, .asl, .accumulator, 1, 2⟩,
    ⟨0x0D, .ora, .absolute, 3, 4⟩,
    ⟨0x0E, .asl, .absolute, 3, 6⟩ ]

/-- Row 0x1x of the opcode map (R108). -/
def opcodeRow1 : List Descriptor :=
  [ ⟨0x10, .bpl, .relative, 2, 2⟩,
    ⟨0x11, .ora, .indirectY, 2, 5⟩,
    ⟨0x15, .ora, .zeroPageX, 2, 4⟩,
    ⟨0x16, .asl, .zeroPageX, 2, 6⟩,
    ⟨0x18, .clc, .implied, 1, 2⟩,
    ⟨0x19, .ora, .absoluteY, 3, 4⟩,
    ⟨0x1D, .ora, .absoluteX, 3, 4⟩,
    ⟨0x1E, .asl, .absoluteX, 3, 7⟩ ]

/-- Row 0x2x of the opcode map (R108). -/
def opcodeRow2 : List Descriptor :=
  [ ⟨0x20, .jsr, .absolute, 3, 6⟩,
    ⟨0x21, .and, .indirectX, 2, 6⟩,
    ⟨0x24, .bit, .zeroPage, 2, 3⟩,
    ⟨0x25, .and, .zeroPage, 2, 3⟩,
    ⟨0x26, .rol, .zeroPage, 2, 5⟩,
    ⟨0x28, .plp, .implied, 1, 4⟩,
    ⟨0x29, .and, .immediate, 2, 2⟩,
    ⟨0x2A, .rol, .accumulator, 1, 2⟩,
    ⟨0x2C, .bit, .absolute, 3, 4⟩,
    ⟨0x2D, .and, .absolute, 3, 4⟩,
    ⟨0x2E, .rol, .absolute, 3, 6⟩ ]

/-- Row 0x3x of the opcode map (R108). -/
def opcodeRow3 : List Descriptor :=
  [ ⟨0x30, .bmi, .relative, 2, 2⟩,
    ⟨0x31, .and, .indirectY, 2, 5⟩,
    ⟨0x35, .and, .zeroPageX, 2, 4⟩,
    ⟨0x36, .rol, .zeroPageX, 2, 6⟩,
    ⟨0x38, .sec, .implied, 1, 2⟩,
    ⟨0x39, .and, .absoluteY, 3, 4⟩,
    ⟨0x3D, .and, .absoluteX, 3, 4⟩,
    ⟨0x3E, .rol, .absoluteX, 3, 7⟩ ]

/-- Row 0x4x of the opcode map (R108). -/
def opcodeRow4 : List Descriptor :=
  [ ⟨0x40, .rti, .implied, 1, 6⟩,
    ⟨0x41, .eor, .indirectX, 2, 6⟩,
    ⟨0x45, .eor, .zeroPage, 2, 3⟩,
    ⟨0x46, .lsr, .zeroPage, 2, 5⟩,
    ⟨0x48, .pha, .implied, 1, 3⟩,
    ⟨0x49, .eor, .immediate, 2, 2⟩,
    ⟨0x4A, .lsr, .accumulator, 1, 2⟩,
    ⟨0x4C, .jmp, .absolute, 3, 3⟩,
    ⟨0x4D, .eor, .absolute, 3, 4⟩,
    ⟨0x4E, .lsr, .absolute, 3, 6⟩ ]

/-- Row 0x5x of the opcode map (R108). -/
def opcodeRow5 : List Descriptor :=
  [ ⟨0x50, .bvc, .relative, 2, 2⟩,
    ⟨0x51, .eor, .indirectY, 2, 5⟩,
    ⟨0x55, .eor, .zeroPageX, 2, 4⟩,
    ⟨0x56, .lsr, .zeroPageX, 2, 6⟩,
    ⟨0x58, .cli, .implied, 1, 2⟩,
    ⟨0x59, .eor, .absoluteY, 3, 4⟩,
    ⟨0x5D, .eor, .absoluteX, 3, 4⟩,
    ⟨0x5E, .lsr, .absoluteX, 3, 7⟩ ]

/-- Row 0x6x of the opcode map (R108). -/
def opcodeRow6 : List Descriptor :=
  [ ⟨0x60, .rts, .implied, 1, 6⟩,
    ⟨0x61, .adc, .indirectX, 2, 6⟩,
    ⟨0x65, .adc, .zeroPage, 2, 3⟩,
    ⟨0x66, .ror, .zeroPage, 2, 5⟩,
    ⟨0x68, .pla, .implied, 1, 4⟩,
    ⟨0x69, .adc, .immediate, 2, 2⟩,
    ⟨0x6A, .ror, .accumulator, 1, 2⟩,
    ⟨0x6C, .jmp, .indirect, 3, 5⟩,
    ⟨0x6D, .adc, .absolute, 3, 4⟩,
    ⟨0x6E, .ror, .absolute, 3, 6⟩ ]

/-- Row 0x7x of the opcode map (R108). -/
def opcodeRow7 : List Descriptor :=
  [ ⟨0x70, .bvs, .relative, 2, 2⟩,
    ⟨0x71, .adc, .indirectY, 2, 5⟩,
    ⟨0x75, .adc, .zeroPageX, 2, 4⟩,
    ⟨0x76, .ror, .zeroPageX, 2, 6⟩,
    ⟨0x78, .sei, .implied, 1, 2⟩,
    ⟨0x79, .adc, .absoluteY, 3, 4⟩,
    ⟨0x7D, .adc, .absoluteX, 3, 4⟩,
    ⟨0x7E, .ror, .absoluteX, 3, 7⟩ ]

/-- Row 0x8x of the opcode map (R108). -/
def opcodeRow8 : List Descriptor :=
  [ ⟨0x81, .sta, .indirectX, 2, 6⟩,
    ⟨0x84, .sty, .zeroPage, 2, 3⟩,
    ⟨0x85, .sta, .zeroPage, 2, 3⟩,
    ⟨0x86, .stx, .zeroPage, 2, 3⟩,
    ⟨0x88, .dey, .implied, 1, 2⟩,
    ⟨0x8A, .txa, .implied, 1, 2⟩,
    ⟨0x8C, .sty, .absolute, 3, 4⟩,
    ⟨0x8D, .sta, .absolute, 3, 4⟩,
    ⟨0x8E, .stx, .absolute, 3, 4⟩ ]

/-- Row 0x9x of the opcode map (R108). -/
def opcodeRow9 : List Descriptor :=
  [ ⟨0x90, .bcc, .relative, 2, 2⟩,
    ⟨0x91, .sta, .indirectY, 2, 6⟩,
    ⟨0x94, .sty, .zeroPageX, 2, 4⟩,
    ⟨0x95, .sta, .zeroPageX, 2, 4⟩,
    ⟨0x96, .stx, .zeroPageY, 2, 4⟩,
    ⟨0x98, .tya, .implied, 1, 2⟩,
    ⟨0x99, .sta, .absoluteY, 3, 5⟩,
    ⟨0x9A, .txs, .implied, 1, 2⟩,
    ⟨0x9D, .sta, .absoluteX, 3, 5⟩ ]

/-- Row 0xAx of the opcode map (R108). -/
def opcodeRowA : List Descriptor :=
  [ ⟨0xA0, .ldy, .immediate, 2, 2⟩,
    ⟨0xA1, .lda, .indirectX, 2, 6⟩,
    ⟨0xA2, .ldx, .immediate, 2, 2⟩,
    ⟨0xA4, .ldy, .zeroPage, 2, 3⟩,
    ⟨0xA5, .lda, .zeroPage, 2, 3⟩,
    ⟨0xA6, .ldx, .zeroPage, 2, 3⟩,
    ⟨0xA8, .tay, .implied, 1, 2⟩,
    ⟨0xA9, .lda, .immediate, 2, 2⟩,
    ⟨0xAA, .tax, .implied, 1, 2⟩,
    ⟨0xAC, .ldy, .absolute, 3, 4⟩,
    ⟨0xAD, .lda, .absolute, 3, 4⟩,
    ⟨0xAE, .ldx, .absolute, 3, 4⟩ ]

/-- Row 0xBx of the opcode map (R108). -/
def opcodeRowB : List Descriptor :=
  [ ⟨0xB0, .bcs, .relative, 2, 2⟩,
    ⟨0xB1, .lda, .indirectY, 2, 5⟩,
    ⟨0xB4, .ldy, .zeroPageX, 2, 4⟩,
    ⟨0xB5, .lda, .zeroPageX, 2, 4⟩,
    ⟨0xB6, .ldx, .zeroPageY, 2, 4⟩,
    ⟨0xB8, .clv, .implied, 1, 2⟩,
    ⟨0xB9, .lda, .absoluteY, 3, 4⟩,
    ⟨0xBA, .tsx, .implied, 1, 2⟩,
    ⟨0xBC, .ldy, .absoluteX, 3, 4⟩,
    ⟨0xBD, .lda, .absoluteX, 3, 4⟩,
    ⟨0xBE, .ldx, .absoluteY, 3, 4⟩ ]

/-- Row 0xCx of the opcode map (R108). -/
def opcodeRowC : List Descriptor :=
  [ ⟨0xC0, .cpy, .immediate, 2, 2⟩,
    ⟨0xC1, .cmp, .indirectX, 2, 6⟩,
    ⟨0xC4, .cpy, .zeroPage, 2, 3⟩,
    ⟨0xC5, .cmp, .zeroPage, 2, 3⟩,
    ⟨0xC6, .dec, .zeroPage, 2, 5⟩,
    ⟨0xC8, .iny, .implied, 1, 2⟩,
    ⟨0xC9, .cmp, .immediate, 2, 2⟩,
    ⟨0xCA, .dex, .implied, 1, 2⟩,
    ⟨0xCC, .cpy, .absolute, 3, 4⟩,
    ⟨0xCD, .cmp, .absolute, 3, 4⟩,
    ⟨0xCE, .dec, .absolute, 3, 6⟩ ]

/-- Row 0xDx of the opcode map (R108). -/
def opcodeRowD : List Descriptor :=
  [ ⟨0xD0, .bne, .relative, 2, 2⟩,
    ⟨0xD1, .cmp, .indirectY, 2, 5⟩,
    ⟨0xD5, .cmp, .zeroPageX, 2, 4⟩,
    ⟨0xD6, .dec, .zeroPageX, 2, 6⟩,
    ⟨0xD8, .cld, .implied, 1, 2⟩,
    ⟨0xD9, .cmp, .absoluteY, 3, 4⟩,
    ⟨0xDD, .cmp, .absoluteX, 3, 4⟩,
    ⟨0xDE, .dec, .absoluteX, 3, 7⟩ ]

/-- Row 0xEx of the opcode map (R108). -/
def opcodeRowE : List Descriptor :=
  [ ⟨0xE0, .cpx, .immediate, 2, 2⟩,
    ⟨0xE1, .sbc, .indirectX, 2, 6⟩,
    ⟨0xE4, .cpx, .zeroPage, 2, 3⟩,
    ⟨0xE5, .sbc, .zeroPage, 2, 3⟩,
    ⟨0xE6, .inc, .zeroPage, 2, 5⟩,
    ⟨0xE8, .inx, .implied, 1, 2⟩,
    ⟨0xE9, .sbc, .immediate, 2, 2⟩,
    ⟨0xEA, .nop, .implied, 1, 2⟩,
    ⟨0xEC, .cpx, .absolute, 3, 4⟩,
    ⟨0xED, .sbc, .absolute, 3, 4⟩,
    ⟨0xEE, .inc, .absolute, 3, 6⟩ ]

/-- Row 0xFx of the opcode map (R108). -/
def opcodeRowF : List Descriptor :=
  [ ⟨0xF0, .beq, .relative, 2, 2⟩,
    ⟨0xF1, .sbc, .indirectY, 2, 5⟩,
    ⟨0xF5, .sbc, .zeroPageX, 2, 4⟩,
    ⟨0xF6, .inc, .zeroPageX, 2, 6⟩,
    ⟨0xF8, .sed, .implied, 1, 2⟩,
    ⟨0xF9, .sbc, .absoluteY, 3, 4⟩,
    ⟨0xFD, .sbc, .absoluteX, 3, 4⟩,
    ⟨0xFE, .inc, .absoluteX, 3, 7⟩ ]

/-- The whole table: 151 descriptors (R55, R107, R109). -/
def opcodeTable : List Descriptor :=
  opcodeRow0 ++ opcodeRow1 ++ opcodeRow2 ++ opcodeRow3 ++ opcodeRow4 ++ opcodeRow5 ++ opcodeRow6 ++ opcodeRow7 ++
  opcodeRow8 ++ opcodeRow9 ++ opcodeRowA ++ opcodeRowB ++ opcodeRowC ++ opcodeRowD ++ opcodeRowE ++ opcodeRowF

/-- The row of the map an opcode byte lies in, by its high digit (R108). -/
def opcodeRow : Nat → List Descriptor
  | 0 => opcodeRow0
  | 1 => opcodeRow1
  | 2 => opcodeRow2
  | 3 => opcodeRow3
  | 4 => opcodeRow4
  | 5 => opcodeRow5
  | 6 => opcodeRow6
  | 7 => opcodeRow7
  | 8 => opcodeRow8
  | 9 => opcodeRow9
  | 10 => opcodeRowA
  | 11 => opcodeRowB
  | 12 => opcodeRowC
  | 13 => opcodeRowD
  | 14 => opcodeRowE
  | 15 => opcodeRowF
  | _ => []

/-- `lookup(opcode)` of R106: the descriptor of the table whose opcode is the byte, or none. It is looked for in the
row of its high digit, where every descriptor with that opcode stands. -/
def lookup (opcode : Byte) : Option Descriptor :=
  (opcodeRow (opcode.toNat / 16)).find? (fun d => d.opcode == opcode)

/-! ### Decoding -/

/-- Why a byte sequence is not an instruction. -/
inductive DecodeError where
  /-- There is no opcode byte. -/
  | noBytes
  /-- The opcode byte has no row in the table (R120); the machine's step turns this into the fault of R341. -/
  | unsupportedOpcode (opcode : Byte)
  /-- The operand bytes the mode asks for are not all there. -/
  | truncated (opcode : Byte)
  /-- The row's mnemonic has no such mode; no row of the table is like that. -/
  | noSuchForm (kind : Kind) (mode : AddrMode)
  deriving DecidableEq, Repr

/-- The operand of a mode, taken from the bytes after the opcode (R105), and the bytes left over. -/
def takeOperand : AddrMode → List Byte → Option (Operand × List Byte)
  | .implied, rest => some (.implied, rest)
  | .accumulator, rest => some (.accumulator, rest)
  | .immediate, b :: rest => some (.immediate b, rest)
  | .zeroPage, b :: rest => some (.zeroPage b, rest)
  | .zeroPageX, b :: rest => some (.zeroPageX b, rest)
  | .zeroPageY, b :: rest => some (.zeroPageY b, rest)
  | .indirectX, b :: rest => some (.indirectX b, rest)
  | .indirectY, b :: rest => some (.indirectY b, rest)
  | .relative, b :: rest => some (.relative b, rest)
  | .absolute, lo :: hi :: rest => some (.absolute (word hi lo), rest)
  | .absoluteX, lo :: hi :: rest => some (.absoluteX (word hi lo), rest)
  | .absoluteY, lo :: hi :: rest => some (.absoluteY (word hi lo), rest)
  | .indirect, lo :: hi :: rest => some (.indirect (word hi lo), rest)
  | _, _ => none

/-- The instruction with this mnemonic and operand, where the table has one (R109). -/
def build (k : Kind) (o : Operand) : Option Instr :=
  match k with
  | .lda => match o with
    | .immediate v => some (.ldaImm v)
    | .zeroPage zp => some (.ldaZp zp)
    | .zeroPageX zp => some (.ldaZpX zp)
    | .absolute w => some (.ldaAbs w)
    | .absoluteX w => some (.ldaAbsX w)
    | .absoluteY w => some (.ldaAbsY w)
    | .indirectX zp => some (.ldaIndX zp)
    | .indirectY zp => some (.ldaIndY zp)
    | _ => none
  | .ldx => match o with
    | .immediate v => some (.ldxImm v)
    | .zeroPage zp => some (.ldxZp zp)
    | .zeroPageY zp => some (.ldxZpY zp)
    | .absolute w => some (.ldxAbs w)
    | .absoluteY w => some (.ldxAbsY w)
    | _ => none
  | .ldy => match o with
    | .immediate v => some (.ldyImm v)
    | .zeroPage zp => some (.ldyZp zp)
    | .zeroPageX zp => some (.ldyZpX zp)
    | .absolute w => some (.ldyAbs w)
    | .absoluteX w => some (.ldyAbsX w)
    | _ => none
  | .sta => match o with
    | .zeroPage zp => some (.staZp zp)
    | .zeroPageX zp => some (.staZpX zp)
    | .absolute w => some (.staAbs w)
    | .absoluteX w => some (.staAbsX w)
    | .absoluteY w => some (.staAbsY w)
    | .indirectX zp => some (.staIndX zp)
    | .indirectY zp => some (.staIndY zp)
    | _ => none
  | .stx => match o with
    | .zeroPage zp => some (.stxZp zp)
    | .zeroPageY zp => some (.stxZpY zp)
    | .absolute w => some (.stxAbs w)
    | _ => none
  | .sty => match o with
    | .zeroPage zp => some (.styZp zp)
    | .zeroPageX zp => some (.styZpX zp)
    | .absolute w => some (.styAbs w)
    | _ => none
  | .tax => match o with
    | .implied => some .tax
    | _ => none
  | .txa => match o with
    | .implied => some .txa
    | _ => none
  | .tay => match o with
    | .implied => some .tay
    | _ => none
  | .tya => match o with
    | .implied => some .tya
    | _ => none
  | .tsx => match o with
    | .implied => some .tsx
    | _ => none
  | .txs => match o with
    | .implied => some .txs
    | _ => none
  | .adc => match o with
    | .immediate v => some (.adcImm v)
    | .zeroPage zp => some (.adcZp zp)
    | .zeroPageX zp => some (.adcZpX zp)
    | .absolute w => some (.adcAbs w)
    | .absoluteX w => some (.adcAbsX w)
    | .absoluteY w => some (.adcAbsY w)
    | .indirectX zp => some (.adcIndX zp)
    | .indirectY zp => some (.adcIndY zp)
    | _ => none
  | .sbc => match o with
    | .immediate v => some (.sbcImm v)
    | .zeroPage zp => some (.sbcZp zp)
    | .zeroPageX zp => some (.sbcZpX zp)
    | .absolute w => some (.sbcAbs w)
    | .absoluteX w => some (.sbcAbsX w)
    | .absoluteY w => some (.sbcAbsY w)
    | .indirectX zp => some (.sbcIndX zp)
    | .indirectY zp => some (.sbcIndY zp)
    | _ => none
  | .and => match o with
    | .immediate v => some (.andImm v)
    | .zeroPage zp => some (.andZp zp)
    | .zeroPageX zp => some (.andZpX zp)
    | .absolute w => some (.andAbs w)
    | .absoluteX w => some (.andAbsX w)
    | .absoluteY w => some (.andAbsY w)
    | .indirectX zp => some (.andIndX zp)
    | .indirectY zp => some (.andIndY zp)
    | _ => none
  | .ora => match o with
    | .immediate v => some (.oraImm v)
    | .zeroPage zp => some (.oraZp zp)
    | .zeroPageX zp => some (.oraZpX zp)
    | .absolute w => some (.oraAbs w)
    | .absoluteX w => some (.oraAbsX w)
    | .absoluteY w => some (.oraAbsY w)
    | .indirectX zp => some (.oraIndX zp)
    | .indirectY zp => some (.oraIndY zp)
    | _ => none
  | .eor => match o with
    | .immediate v => some (.eorImm v)
    | .zeroPage zp => some (.eorZp zp)
    | .zeroPageX zp => some (.eorZpX zp)
    | .absolute w => some (.eorAbs w)
    | .absoluteX w => some (.eorAbsX w)
    | .absoluteY w => some (.eorAbsY w)
    | .indirectX zp => some (.eorIndX zp)
    | .indirectY zp => some (.eorIndY zp)
    | _ => none
  | .asl => match o with
    | .accumulator => some .aslAcc
    | .zeroPage zp => some (.aslZp zp)
    | .zeroPageX zp => some (.aslZpX zp)
    | .absolute w => some (.aslAbs w)
    | .absoluteX w => some (.aslAbsX w)
    | _ => none
  | .lsr => match o with
    | .accumulator => some .lsrAcc
    | .zeroPage zp => some (.lsrZp zp)
    | .zeroPageX zp => some (.lsrZpX zp)
    | .absolute w => some (.lsrAbs w)
    | .absoluteX w => some (.lsrAbsX w)
    | _ => none
  | .rol => match o with
    | .accumulator => some .rolAcc
    | .zeroPage zp => some (.rolZp zp)
    | .zeroPageX zp => some (.rolZpX zp)
    | .absolute w => some (.rolAbs w)
    | .absoluteX w => some (.rolAbsX w)
    | _ => none
  | .ror => match o with
    | .accumulator => some .rorAcc
    | .zeroPage zp => some (.rorZp zp)
    | .zeroPageX zp => some (.rorZpX zp)
    | .absolute w => some (.rorAbs w)
    | .absoluteX w => some (.rorAbsX w)
    | _ => none
  | .inc => match o with
    | .zeroPage zp => some (.incZp zp)
    | .zeroPageX zp => some (.incZpX zp)
    | .absolute w => some (.incAbs w)
    | .absoluteX w => some (.incAbsX w)
    | _ => none
  | .dec => match o with
    | .zeroPage zp => some (.decZp zp)
    | .zeroPageX zp => some (.decZpX zp)
    | .absolute w => some (.decAbs w)
    | .absoluteX w => some (.decAbsX w)
    | _ => none
  | .inx => match o with
    | .implied => some .inx
    | _ => none
  | .iny => match o with
    | .implied => some .iny
    | _ => none
  | .dex => match o with
    | .implied => some .dex
    | _ => none
  | .dey => match o with
    | .implied => some .dey
    | _ => none
  | .cmp => match o with
    | .immediate v => some (.cmpImm v)
    | .zeroPage zp => some (.cmpZp zp)
    | .zeroPageX zp => some (.cmpZpX zp)
    | .absolute w => some (.cmpAbs w)
    | .absoluteX w => some (.cmpAbsX w)
    | .absoluteY w => some (.cmpAbsY w)
    | .indirectX zp => some (.cmpIndX zp)
    | .indirectY zp => some (.cmpIndY zp)
    | _ => none
  | .cpx => match o with
    | .immediate v => some (.cpxImm v)
    | .zeroPage zp => some (.cpxZp zp)
    | .absolute w => some (.cpxAbs w)
    | _ => none
  | .cpy => match o with
    | .immediate v => some (.cpyImm v)
    | .zeroPage zp => some (.cpyZp zp)
    | .absolute w => some (.cpyAbs w)
    | _ => none
  | .bcc => match o with
    | .relative d => some (.bcc d)
    | _ => none
  | .bcs => match o with
    | .relative d => some (.bcs d)
    | _ => none
  | .beq => match o with
    | .relative d => some (.beq d)
    | _ => none
  | .bne => match o with
    | .relative d => some (.bne d)
    | _ => none
  | .bmi => match o with
    | .relative d => some (.bmi d)
    | _ => none
  | .bpl => match o with
    | .relative d => some (.bpl d)
    | _ => none
  | .bvc => match o with
    | .relative d => some (.bvc d)
    | _ => none
  | .bvs => match o with
    | .relative d => some (.bvs d)
    | _ => none
  | .jmp => match o with
    | .absolute w => some (.jmpAbs w)
    | .indirect w => some (.jmpInd w)
    | _ => none
  | .jsr => match o with
    | .absolute w => some (.jsr w)
    | _ => none
  | .rts => match o with
    | .implied => some .rts
    | _ => none
  | .rti => match o with
    | .implied => some .rti
    | _ => none
  | .pha => match o with
    | .implied => some .pha
    | _ => none
  | .php => match o with
    | .implied => some .php
    | _ => none
  | .pla => match o with
    | .implied => some .pla
    | _ => none
  | .plp => match o with
    | .implied => some .plp
    | _ => none
  | .clc => match o with
    | .implied => some .clc
    | _ => none
  | .sec => match o with
    | .implied => some .sec
    | _ => none
  | .cli => match o with
    | .implied => some .cli
    | _ => none
  | .sei => match o with
    | .implied => some .sei
    | _ => none
  | .cld => match o with
    | .implied => some .cld
    | _ => none
  | .sed => match o with
    | .implied => some .sed
    | _ => none
  | .clv => match o with
    | .implied => some .clv
    | _ => none
  | .bit => match o with
    | .zeroPage zp => some (.bitZp zp)
    | .absolute w => some (.bitAbs w)
    | _ => none
  | .brk => match o with
    | .implied => some .brk
    | _ => none
  | .nop => match o with
    | .implied => some .nop
    | _ => none

/-- Decode one instruction from a list of bytes (R100, R105, R106, R123): the opcode byte alone fixes the mnemonic,
the mode and the length, and the operand bytes follow. Total; what it refuses it refuses by name. -/
def decode : List Byte → Except DecodeError (Instr × List Byte)
  | [] => .error .noBytes
  | opcode :: rest =>
    match lookup opcode with
    | none => .error (.unsupportedOpcode opcode)
    | some d =>
      match takeOperand d.mode rest with
      | none => .error (.truncated opcode)
      | some (o, rest') =>
        match build d.kind o with
        | none => .error (.noSuchForm d.kind d.mode)
        | some i => .ok (i, rest')

/-! ### Encoding -/

/-- The operand bytes of an operand, low byte first (R102, R103). -/
def Operand.bytes : Operand → List Byte
  | .immediate b | .zeroPage b | .zeroPageX b | .zeroPageY b | .indirectX b | .indirectY b | .relative b => [b]
  | .absolute w | .absoluteX w | .absoluteY w | .indirect w => [lowByte w, highByte w]
  | .accumulator | .implied => []

/-- The opcode byte of each instruction (R109). -/
def opcodeOf : Instr → Byte
  | .ldaImm _ => 0xA9#8
  | .ldaZp _ => 0xA5#8
  | .ldaZpX _ => 0xB5#8
  | .ldaAbs _ => 0xAD#8
  | .ldaAbsX _ => 0xBD#8
  | .ldaAbsY _ => 0xB9#8
  | .ldaIndX _ => 0xA1#8
  | .ldaIndY _ => 0xB1#8
  | .ldxImm _ => 0xA2#8
  | .ldxZp _ => 0xA6#8
  | .ldxZpY _ => 0xB6#8
  | .ldxAbs _ => 0xAE#8
  | .ldxAbsY _ => 0xBE#8
  | .ldyImm _ => 0xA0#8
  | .ldyZp _ => 0xA4#8
  | .ldyZpX _ => 0xB4#8
  | .ldyAbs _ => 0xAC#8
  | .ldyAbsX _ => 0xBC#8
  | .staZp _ => 0x85#8
  | .staZpX _ => 0x95#8
  | .staAbs _ => 0x8D#8
  | .staAbsX _ => 0x9D#8
  | .staAbsY _ => 0x99#8
  | .staIndX _ => 0x81#8
  | .staIndY _ => 0x91#8
  | .stxZp _ => 0x86#8
  | .stxZpY _ => 0x96#8
  | .stxAbs _ => 0x8E#8
  | .styZp _ => 0x84#8
  | .styZpX _ => 0x94#8
  | .styAbs _ => 0x8C#8
  | .tax => 0xAA#8
  | .txa => 0x8A#8
  | .tay => 0xA8#8
  | .tya => 0x98#8
  | .tsx => 0xBA#8
  | .txs => 0x9A#8
  | .adcImm _ => 0x69#8
  | .adcZp _ => 0x65#8
  | .adcZpX _ => 0x75#8
  | .adcAbs _ => 0x6D#8
  | .adcAbsX _ => 0x7D#8
  | .adcAbsY _ => 0x79#8
  | .adcIndX _ => 0x61#8
  | .adcIndY _ => 0x71#8
  | .sbcImm _ => 0xE9#8
  | .sbcZp _ => 0xE5#8
  | .sbcZpX _ => 0xF5#8
  | .sbcAbs _ => 0xED#8
  | .sbcAbsX _ => 0xFD#8
  | .sbcAbsY _ => 0xF9#8
  | .sbcIndX _ => 0xE1#8
  | .sbcIndY _ => 0xF1#8
  | .andImm _ => 0x29#8
  | .andZp _ => 0x25#8
  | .andZpX _ => 0x35#8
  | .andAbs _ => 0x2D#8
  | .andAbsX _ => 0x3D#8
  | .andAbsY _ => 0x39#8
  | .andIndX _ => 0x21#8
  | .andIndY _ => 0x31#8
  | .oraImm _ => 0x09#8
  | .oraZp _ => 0x05#8
  | .oraZpX _ => 0x15#8
  | .oraAbs _ => 0x0D#8
  | .oraAbsX _ => 0x1D#8
  | .oraAbsY _ => 0x19#8
  | .oraIndX _ => 0x01#8
  | .oraIndY _ => 0x11#8
  | .eorImm _ => 0x49#8
  | .eorZp _ => 0x45#8
  | .eorZpX _ => 0x55#8
  | .eorAbs _ => 0x4D#8
  | .eorAbsX _ => 0x5D#8
  | .eorAbsY _ => 0x59#8
  | .eorIndX _ => 0x41#8
  | .eorIndY _ => 0x51#8
  | .aslAcc => 0x0A#8
  | .aslZp _ => 0x06#8
  | .aslZpX _ => 0x16#8
  | .aslAbs _ => 0x0E#8
  | .aslAbsX _ => 0x1E#8
  | .lsrAcc => 0x4A#8
  | .lsrZp _ => 0x46#8
  | .lsrZpX _ => 0x56#8
  | .lsrAbs _ => 0x4E#8
  | .lsrAbsX _ => 0x5E#8
  | .rolAcc => 0x2A#8
  | .rolZp _ => 0x26#8
  | .rolZpX _ => 0x36#8
  | .rolAbs _ => 0x2E#8
  | .rolAbsX _ => 0x3E#8
  | .rorAcc => 0x6A#8
  | .rorZp _ => 0x66#8
  | .rorZpX _ => 0x76#8
  | .rorAbs _ => 0x6E#8
  | .rorAbsX _ => 0x7E#8
  | .incZp _ => 0xE6#8
  | .incZpX _ => 0xF6#8
  | .incAbs _ => 0xEE#8
  | .incAbsX _ => 0xFE#8
  | .decZp _ => 0xC6#8
  | .decZpX _ => 0xD6#8
  | .decAbs _ => 0xCE#8
  | .decAbsX _ => 0xDE#8
  | .inx => 0xE8#8
  | .iny => 0xC8#8
  | .dex => 0xCA#8
  | .dey => 0x88#8
  | .cmpImm _ => 0xC9#8
  | .cmpZp _ => 0xC5#8
  | .cmpZpX _ => 0xD5#8
  | .cmpAbs _ => 0xCD#8
  | .cmpAbsX _ => 0xDD#8
  | .cmpAbsY _ => 0xD9#8
  | .cmpIndX _ => 0xC1#8
  | .cmpIndY _ => 0xD1#8
  | .cpxImm _ => 0xE0#8
  | .cpxZp _ => 0xE4#8
  | .cpxAbs _ => 0xEC#8
  | .cpyImm _ => 0xC0#8
  | .cpyZp _ => 0xC4#8
  | .cpyAbs _ => 0xCC#8
  | .bcc _ => 0x90#8
  | .bcs _ => 0xB0#8
  | .beq _ => 0xF0#8
  | .bne _ => 0xD0#8
  | .bmi _ => 0x30#8
  | .bpl _ => 0x10#8
  | .bvc _ => 0x50#8
  | .bvs _ => 0x70#8
  | .jmpAbs _ => 0x4C#8
  | .jmpInd _ => 0x6C#8
  | .jsr _ => 0x20#8
  | .rts => 0x60#8
  | .rti => 0x40#8
  | .pha => 0x48#8
  | .php => 0x08#8
  | .pla => 0x68#8
  | .plp => 0x28#8
  | .clc => 0x18#8
  | .sec => 0x38#8
  | .cli => 0x58#8
  | .sei => 0x78#8
  | .cld => 0xD8#8
  | .sed => 0xF8#8
  | .clv => 0xB8#8
  | .bitZp _ => 0x24#8
  | .bitAbs _ => 0x2C#8
  | .brk => 0x00#8
  | .nop => 0xEA#8

/-- The row of the table at an instruction's opcode byte (R106). -/
def descriptorOf (i : Instr) : Option Descriptor := lookup (opcodeOf i)

/-- The bytes of an instruction: its opcode, then its operand bytes (R100 to R103). -/
def encode (i : Instr) : List Byte := opcodeOf i :: i.operand.bytes

/-! ### Words numbered as the opcode table numbers them -/

/-- The three bytes from which an instruction whose bits are `w` is read: byte `k` is bits `8k+7 .. 8k`, and every bit
above `nbits` is 0. -/
def tableWordBytes (nbits w : Nat) : List Byte :=
  let v := w % 2 ^ nbits
  [BitVec.ofNat 8 v, BitVec.ofNat 8 (v / 2 ^ 8), BitVec.ofNat 8 (v / 2 ^ 16)]

/-- The instruction the decoder reads from the bits `w` of a table row. -/
def decodeTableWord (nbits w : Nat) : Option Instr :=
  match decode (tableWordBytes nbits w) with
  | .ok (i, _) => some i
  | .error _ => none

end Sys2Proof
end

