-- ==== Sys2Proof/Machine/State.lean ====
section
/-! DEFINITION. The machine's state (10_state.md R30 to R58), the canonical form of its memory, the two reason types
of a step that does not go on, and the state after reset. -/

namespace Sys2Proof.Machine

/-- The status register P as its seven stored flags (R38 to R47). Bit 5 is hardwired to 1 (R45): it stores nothing and
appears only when P is read as a byte (`Flags.toByte`; log 11). -/
structure Flags where
  /-- Carry, bit 0 (R39). -/
  c : Bool
  /-- Zero, bit 1 (R40). -/
  z : Bool
  /-- Interrupt-disable, bit 2 (R41). -/
  i : Bool
  /-- Decimal, bit 3 (R42). -/
  d : Bool
  /-- Break, bit 4 (R44). -/
  b : Bool
  /-- Overflow, bit 6 (R46). -/
  v : Bool
  /-- Negative, bit 7 (R47). -/
  n : Bool
  deriving DecidableEq, Repr

/-- The memory: (address, byte) pairs. An address that is not listed reads as `Memory.unlisted`. -/
abbrev Memory := List Host.Cell

/-- What an address that is not listed reads as: the creation value of every memory byte (R92; log 6). -/
def Memory.unlisted : Byte := 0x00#8

/-- The listed addresses all exceed `low`, rise strictly and lie in the address space, and no entry is equal to what an
unlisted address reads as. `low` is one more than the last address, so that 0 admits every address. -/
def Memory.wfFrom : Nat → List Host.Cell → Bool
  | _, [] => true
  | low, (k, v) :: rest =>
    decide (low ≤ k) && decide (k < 65536) && decide (v ≠ Memory.unlisted) && Memory.wfFrom (k + 1) rest

/-- The canonical form of memory: equal memories are equal lists. -/
def Memory.wf (m : Memory) : Bool := Memory.wfFrom 0 m

/-- `mode`: where the execution loop stands between steps (R52). -/
inductive RunMode where
  | running
  | halted
  | faulted
  deriving DecidableEq, Repr

/-- The fault report (R53): the kind and what 60_exceptions.md R341 and R342 record with it. -/
inductive FaultReport where
  /-- The opcode byte and the address it was fetched from (R341). -/
  | unsupportedOpcode (opcode : Byte) (addr : Addr)
  /-- The mode the resolver does not implement (R342). -/
  | unsupportedAddressingMode (mode : AddrMode)
  deriving DecidableEq, Repr

/-- The CPU state (R30), and one field of the model's own, `cfg`. -/
structure State where
  /-- The accumulator (R31). -/
  a : Byte
  /-- Index register X (R32). -/
  x : Byte
  /-- Index register Y (R33). -/
  y : Byte
  /-- The status flags (R38). -/
  p : Flags
  /-- The stack pointer, an offset into page 0x01 (R35). -/
  sp : Byte
  /-- The program counter (R36). -/
  pc : Addr
  /-- The 65536 bytes of memory (R51). -/
  mem : Memory
  /-- The loop state (R52). -/
  mode : RunMode
  /-- The fault report, empty unless `mode` is Faulted (R53). -/
  fault : Option FaultReport
  /-- The model's own field: the four parameters the model receives (00_scope.md R8; log 2). Nothing writes it. -/
  cfg : Params
  deriving DecidableEq, Repr

/-- Why a step ends in a fault. Each carries the state the fault leaves (R340, R385; log 4). -/
inductive Fault where
  /-- Raised by `step` when the byte at PC has no row in the opcode table (R142, R341). Safe: it is the spec's own
  fault, and no instruction runs. -/
  | unsupportedOpcode (opcode : Byte) (addr : Addr) (after : State)
  /-- Raised by the resolver on Accumulator and Implied (R184, R342). No instruction reaches it (D21; log 10). Safe. -/
  | unsupportedAddressingMode (mode : AddrMode) (after : State)
  deriving DecidableEq, Repr

/-- Why a step or a host operation is refused. A refusal leaves no state change (R149). -/
inductive Refusal where
  /-- Raised by `exec` for an instruction that has no meaning yet; no arm does. Safe. -/
  | notModelled (mnemonic : String)
  /-- `refuse DecimalMode`: raised by ADC and SBC with D = 1 under `DECIMAL_POLICY = refuse` (R236). Safe. -/
  | decimalMode
  /-- Raised by `step` in a state whose mode is not Running: no step is enabled there (R154; log 5). Safe. -/
  | stepNotEnabled (mode : RunMode)
  /-- Raised by every host operation but reading on a Faulted state (R340, R371, R377, R379, R380, R383). Safe. -/
  | hostOnFaulted
  /-- Raised by the host's `load` on an image of more than 0x8000 bytes (R343, R384). Safe. -/
  | programTooLarge (len : Nat)
  deriving DecidableEq, Repr

/-- All seven stored flags 0, as at creation and after reset (R56, R57). -/
def Flags.zero : Flags :=
  { c := false, z := false, i := false, d := false, b := false, v := false, n := false }

/-- The state after reset (R57, R371) of a created machine (R56): PC is the word at 0xFFFC of a memory that is 0x00
everywhere (R372). How a program comes to run from here is log 7. -/
def State.reset : State :=
  { a := 0x00#8, x := 0x00#8, y := 0x00#8, p := Flags.zero, sp := 0xFF#8, pc := 0x0000#16, mem := [],
    mode := .running, fault := none, cfg := Params.defaults }

end Sys2Proof.Machine
end

