-- ==== Sys2Proof/Machine/Flags.lean ====
section
/-! DEFINITION. Every flag computation of the spec: P as a byte (10_state.md R45, R49), setNZ (R43), the adder of ADC
and SBC (43_arithmetic_logic.md R230), the compare helper (44_shift_incdec_compare.md R261), the four shifts (R251 to
R254) and the bit test (46_stack_flags_bit_brk.md R321). -/

namespace Sys2Proof.Machine

/-- `Pbyte()` of R49: `N V 1 B D I Z C` from bit 7 down. Bit 5 is the hardwired 1 of R45. -/
def Flags.toByte (p : Flags) : Byte :=
  BitVec.ofBool p.n ++ BitVec.ofBool p.v ++ 1#1 ++ BitVec.ofBool p.b ++ BitVec.ofBool p.d ++ BitVec.ofBool p.i ++
    BitVec.ofBool p.z ++ BitVec.ofBool p.c

/-- `PushedP()` of R49: the byte PHP and BRK push. -/
def Flags.pushed (p : Flags) : Byte := p.toByte ||| 0x30#8

/-- `SetPFromPulled(v)` of R49: B becomes 0, bits 4 and 5 of the byte are ignored. -/
def Flags.ofPulled (v : Byte) : Flags :=
  { c := v.getLsbD 0, z := v.getLsbD 1, i := v.getLsbD 2, d := v.getLsbD 3, b := false, v := v.getLsbD 6,
    n := v.getLsbD 7 }

/-- `setNZ(v)` of R43. -/
def Flags.setNZ (p : Flags) (v : Byte) : Flags :=
  { p with z := v == 0x00#8, n := v.getLsbD 7 }

/-- What the adder computes: the byte, the carry out and the two's-complement overflow. -/
structure Sum where
  value : Byte
  carry : Bool
  overflow : Bool
  deriving DecidableEq, Repr

/-- `AddC(x, y, cin)` of R230. -/
def addC (x y : Byte) (cin : Bool) : Sum :=
  let total := x.toNat + y.toNat + cin.toNat
  let r := BitVec.ofNat 8 total
  { value := r, carry := decide (256 ≤ total), overflow := ((x ^^^ r) &&& (y ^^^ r)).getLsbD 7 }

/-- The flags ADC and SBC leave (R231, R232): C and V from the adder, then setNZ of the result. -/
def Flags.afterSum (p : Flags) (r : Sum) : Flags :=
  Flags.setNZ { p with c := r.carry, v := r.overflow } r.value

/-- `Compare(reg, m)` of R261: the difference is discarded. -/
def Flags.compare (p : Flags) (reg m : Byte) : Flags :=
  { p with c := decide (m.toNat ≤ reg.toNat), z := reg == m, n := (reg - m).getLsbD 7 }

/-- A one-bit shift or rotate: the result byte and the bit shifted out. -/
structure Shifted where
  value : Byte
  out : Bool
  deriving DecidableEq, Repr

/-- ASL (R251): bit 0 of the result is 0. -/
def shiftLeft (v : Byte) : Shifted := { value := v <<< 1, out := v.getLsbD 7 }

/-- LSR (R252): bit 7 of the result is 0. -/
def shiftRight (v : Byte) : Shifted := { value := v >>> 1, out := v.getLsbD 0 }

/-- ROL (R253): the old carry enters bit 0. -/
def rotateLeft (v : Byte) (cin : Bool) : Shifted :=
  { value := (v <<< 1) ||| (BitVec.ofBool cin).zeroExtend 8, out := v.getLsbD 7 }

/-- ROR (R254): the old carry enters bit 7. -/
def rotateRight (v : Byte) (cin : Bool) : Shifted :=
  { value := (v >>> 1) ||| ((BitVec.ofBool cin).zeroExtend 8 <<< 7), out := v.getLsbD 0 }

/-- The flags a shift or rotate leaves (R250): C is the bit shifted out, N and Z come from the result. -/
def Flags.afterShift (p : Flags) (r : Shifted) : Flags :=
  Flags.setNZ { p with c := r.out } r.value

/-- The flags BIT leaves (R321): Z from the AND, N and V from bits 7 and 6 of the operand. -/
def Flags.bitTest (p : Flags) (a m : Byte) : Flags :=
  { p with z := (a &&& m) == 0x00#8, n := m.getLsbD 7, v := m.getLsbD 6 }

end Sys2Proof.Machine
end

