-- ==== Sys2Proof/Machine/Ops.lean ====
section
/-! DEFINITION. The shared operations: memory (20_memory.md R74 to R78), the writers of each register, the stack (R80
to R82), the end of an instruction (40_execution_loop.md R145, R146), raising a fault (60_exceptions.md R340), and
trap entry and return (R347, R348). -/

namespace Sys2Proof.Machine

/-! ### Memory -/

/-- The byte listed at `k`, or what an unlisted address reads as. -/
def Memory.lookup : List Host.Cell → Nat → Byte
  | [], _ => Memory.unlisted
  | (j, v) :: rest, k => if j = k then v else Memory.lookup rest k

/-- Store `v` at `k`, keeping the canonical form: storing the unlisted value removes the entry. -/
def Memory.store : List Host.Cell → Nat → Byte → List Host.Cell
  | [], k, v => if v = Memory.unlisted then [] else [(k, v)]
  | (j, w) :: rest, k, v =>
    if k < j then (if v = Memory.unlisted then (j, w) :: rest else (k, v) :: (j, w) :: rest)
    else if j = k then (if v = Memory.unlisted then rest else (k, v) :: rest)
    else (j, w) :: Memory.store rest k v

/-- `MemRead(addr, 1)` (R74). -/
def State.read (s : State) (addr : Addr) : Byte := Memory.lookup s.mem addr.toNat

/-- `MemWrite(addr, 1, v)` (R75). -/
def State.write (s : State) (addr : Addr) (v : Byte) : State :=
  { s with mem := Memory.store s.mem addr.toNat v }

/-- `ReadWord(addr)` (R76): little-endian, the second address modulo 65536. -/
def State.readWord (s : State) (addr : Addr) : Addr := word (s.read (addr + 1#16)) (s.read addr)

/-- `zext_16(b)` (R9). -/
def zext (b : Byte) : Addr := b.zeroExtend 16

/-- `ReadWordZP(p)` (R77): the pointer stays in page zero when `ZP_PTR_WRAP` holds. -/
def State.readWordZP (s : State) (ptr : Byte) : Addr :=
  if s.cfg.zpPtrWrap then word (s.read (zext (ptr + 1#8))) (s.read (zext ptr))
  else word (s.read (zext ptr + 1#16)) (s.read (zext ptr))

/-- `WriteWord(addr, v)` (R78): low byte, then high byte. -/
def State.writeWord (s : State) (addr v : Addr) : State :=
  (s.write addr (lowByte v)).write (addr + 1#16) (highByte v)

/-! ### Register writers -/

def State.setA (s : State) (v : Byte) : State := { s with a := v }
def State.setX (s : State) (v : Byte) : State := { s with x := v }
def State.setY (s : State) (v : Byte) : State := { s with y := v }
def State.setP (s : State) (v : Flags) : State := { s with p := v }
def State.setSP (s : State) (v : Byte) : State := { s with sp := v }
def State.setPC (s : State) (v : Addr) : State := { s with pc := v }
def State.setMode (s : State) (v : RunMode) : State := { s with mode := v }
def State.setFault (s : State) (v : Option FaultReport) : State := { s with fault := v }

/-- `setNZ(v)` on the state's P (R43). -/
def State.setNZ (s : State) (v : Byte) : State := s.setP (s.p.setNZ v)

/-! ### The stack -/

/-- The address SP stands for: `0x0100 | zext_16(SP)` (R35). -/
def stackAddr (sp : Byte) : Addr := stackBase ||| zext sp

/-- `Push8(v)` (R80): write, then decrement SP modulo 256. -/
def State.push8 (s : State) (v : Byte) : State :=
  (s.write (stackAddr s.sp) v).setSP (s.sp - 1#8)

/-- `Pull8()` (R81): increment SP modulo 256, then read; the byte and the state after. -/
def State.pull8 (s : State) : Byte × State :=
  let t := s.setSP (s.sp + 1#8)
  (t.read (stackAddr t.sp), t)

/-- `Push16(v)` (R82): high byte, then low byte. -/
def State.push16 (s : State) (v : Addr) : State :=
  (s.push8 (highByte v)).push8 (lowByte v)

/-- `Pull16()` (R82): low byte, then high byte. -/
def State.pull16 (s : State) : Addr × State :=
  let lo := s.pull8
  let hi := lo.2.pull8
  (word hi.1 lo.1, hi.2)

/-! ### The end of an instruction -/

/-- The generic advance of R146. The fetch has already counted the opcode byte. -/
def State.advance (s : State) (len : Nat) : State := s.setPC (s.pc + BitVec.ofNat 16 (len - 1))

/-- The end of an instruction of `len` bytes: the generic advance applies unless the executor recorded that it set PC
(`pcSet`, R145, R146). -/
def finish (len : Nat) (pcSet : Bool) (s : State) : Host.Outcome State Fault Refusal :=
  .next (if pcSet then s else s.advance len)

/-! ### Faults -/

/-- The state a fault leaves (R340): mode Faulted and the report recorded, every other field as it was. -/
def State.faulted (s : State) (r : FaultReport) : State := (s.setMode .faulted).setFault (some r)

/-- `raise` (R340): the step ends with the fault and the state it leaves. -/
def raise (r : FaultReport) (s : State) : Host.Outcome State Fault Refusal :=
  match r with
  | .unsupportedOpcode opcode addr => .fault (.unsupportedOpcode opcode addr (s.faulted r))
  | .unsupportedAddressingMode mode => .fault (.unsupportedAddressingMode mode (s.faulted r))

/-! ### Trap entry and return -/

/-- Trap entry (R347; BRK is the only trap-like instruction): the return address `pc1 + 1`, then `PushedP()` taken
before B is set, go on the stack; B becomes 1, I too if `BRK_SETS_I`; the loop halts (R147). No vector is read and PC
stays where it is. -/
def State.trapEntry (s : State) : State :=
  let t := (s.push16 (s.pc + 1#16)).push8 s.p.pushed
  (t.setP { t.p with b := true, i := s.cfg.brkSetsI || t.p.i }).setMode .halted

/-- Trap return (R348; RTI): P from the first pulled byte, then PC from the next two, without adding 1. -/
def State.trapReturn (s : State) : State :=
  let status := s.pull8
  let ret := (status.2.setP (Flags.ofPulled status.1)).pull16
  ret.2.setPC ret.1

end Sys2Proof.Machine
end

