-- ==== Sys2Proof/Machine/Operands.lean ====
section
/-! DEFINITION. The addressing-mode resolver (41_addressing_modes.md R170 to R184) and the operand access helpers
(R185). They are called in the Execute phase, when PC holds `pc1`, the address after the opcode (R144). The operand
bytes are those the decoder read (log 1). -/

namespace Sys2Proof.Machine

/-- `sext_16(b)` (R9): a displacement read as two's complement. -/
def sext (b : Byte) : Addr := b.signExtend 16

/-- `Resolve(mode)` (R170): the effective address of each resolvable mode, none for the two tags that are not resolved
(R182 to R184). It reads the state and writes nothing. -/
def resolve (o : Operand) (s : State) : Option Addr :=
  match o with
  | .immediate _ => some s.pc                                  -- R171: ea = pc1
  | .zeroPage zp => some (zext zp)                             -- R172
  | .zeroPageX zp => some (zext (zp + s.x))                    -- R173: modulo 256
  | .zeroPageY zp => some (zext (zp + s.y))                    -- R174: modulo 256
  | .absolute w => some w                                      -- R175
  | .absoluteX w => some (w + zext s.x)                        -- R176: modulo 65536
  | .absoluteY w => some (w + zext s.y)                        -- R177
  | .indirectX zp => some (s.readWordZP (zp + s.x))            -- R178
  | .indirectY zp => some (s.readWordZP zp + zext s.y)         -- R179
  | .relative d => some (s.pc + 1#16 + sext d)                 -- R180: (pc1 + 1) + sext_16(op8)
  | .indirect w => some w                                      -- R181: ea = ptr
  | .accumulator => none
  | .implied => none

/-- `Operand(mode)` (R185): A in Accumulator mode, the operand byte itself in Immediate mode (the byte at `pc1`, R171),
the byte at the effective address otherwise. -/
def readOperand (o : Operand) (s : State) : Option Byte :=
  match o with
  | .accumulator => some s.a
  | .immediate v => some v
  | o => (resolve o s).map s.read

/-- `WriteBack(mode, v)` (R185): A in Accumulator mode, the byte at the effective address otherwise. -/
def writeBack (o : Operand) (v : Byte) (s : State) : Option State :=
  match o with
  | .accumulator => some (s.setA v)
  | o => (resolve o s).map fun ea => s.write ea v

/-- Go on with the effective address, or raise `UnsupportedAddressingMode` (R184). -/
def withAddress (o : Operand) (s : State) (k : Addr → Host.Outcome State Fault Refusal) :
    Host.Outcome State Fault Refusal :=
  match resolve o s with
  | some ea => k ea
  | none => raise (.unsupportedAddressingMode o.mode) s

/-- Go on with the operand byte, or raise `UnsupportedAddressingMode` (R184). -/
def withOperand (o : Operand) (s : State) (k : Byte → Host.Outcome State Fault Refusal) :
    Host.Outcome State Fault Refusal :=
  match readOperand o s with
  | some m => k m
  | none => raise (.unsupportedAddressingMode o.mode) s

/-- Read-modify-write (R185, R250): read the operand once, write the result back to the same place once, set P, and
receive the generic advance. `f` gives the result byte and the flags from the operand byte and the old flags. -/
def modifyOperand (o : Operand) (s : State) (f : Byte → Flags → Byte × Flags) :
    Host.Outcome State Fault Refusal :=
  withOperand o s fun v =>
    match writeBack o (f v s.p).1 s with
    | some t => finish o.length false (t.setP (f v s.p).2)
    | none => raise (.unsupportedAddressingMode o.mode) s

/-- An instruction that reads its operand and changes registers and flags only (loads, arithmetic, logic, compares,
BIT), and receives the generic advance. -/
def readInto (o : Operand) (s : State) (f : Byte → State) : Host.Outcome State Fault Refusal :=
  withOperand o s fun m => finish o.length false (f m)

/-- An instruction that stores one byte at its effective address, writes no flag (R203 to R205) and receives the
generic advance. -/
def storeByte (o : Operand) (s : State) (v : Byte) : Host.Outcome State Fault Refusal :=
  withAddress o s fun ea => finish o.length false (s.write ea v)

/-- An instruction with no operand bytes that changes registers and flags only and receives the generic advance. -/
def implied (s : State) : Host.Outcome State Fault Refusal := finish Operand.implied.length false s

/-- `JMP (ptr)`'s target (45_control_transfer.md R289): where the high byte is read from is `JMP_IND_PAGE_WRAP`. -/
def State.indirectTarget (s : State) (ptr : Addr) : Addr :=
  let hiAddr := if s.cfg.jmpIndPageWrap then (ptr &&& 0xFF00#16) ||| ((ptr + 1#16) &&& 0x00FF#16) else ptr + 1#16
  word (s.read hiAddr) (s.read ptr)

end Sys2Proof.Machine
end

