-- ==== Sys2Proof/Machine/Arith.lean ====
section
/-! DEFINITION. Arithmetic and logic: ADC, SBC (43_arithmetic_logic.md R231, R232, R236), AND, ORA, EOR (R233 to R235). -/

namespace Sys2Proof.Machine

/-- The one case the model refuses (R236): D = 1 under `DECIMAL_POLICY = refuse`. -/
def State.refusesDecimal (s : State) : Bool := s.p.d && s.cfg.decimalPolicy == .refuse

/-- `A <- r; P.C <- c; P.V <- v; setNZ(r)` with the adder's result (R231, R232). -/
def State.takeSum (s : State) (r : Sum) : State := (s.setA r.value).setP (s.p.afterSum r)

/-- ADC (R231): `AddC(A, M, P.C)`. -/
def adc (o : Operand) (s : State) : Host.Outcome State Fault Refusal :=
  if s.refusesDecimal then .refused .decimalMode
  else readInto o s fun m => s.takeSum (addC s.a m s.p.c)

/-- `ADC #$nn` (R231, R171). -/
def execAdcImm (v : Byte) (s : State) : Host.Outcome State Fault Refusal := adc (.immediate v) s

/-- `ADC $nn` (R231, R172). -/
def execAdcZp (zp : Byte) (s : State) : Host.Outcome State Fault Refusal := adc (.zeroPage zp) s

/-- `ADC $nn,X` (R231, R173). -/
def execAdcZpX (zp : Byte) (s : State) : Host.Outcome State Fault Refusal := adc (.zeroPageX zp) s

/-- `ADC $nnnn` (R231, R175). -/
def execAdcAbs (w : Addr) (s : State) : Host.Outcome State Fault Refusal := adc (.absolute w) s

/-- `ADC $nnnn,X` (R231, R176). -/
def execAdcAbsX (w : Addr) (s : State) : Host.Outcome State Fault Refusal := adc (.absoluteX w) s

/-- `ADC $nnnn,Y` (R231, R177). -/
def execAdcAbsY (w : Addr) (s : State) : Host.Outcome State Fault Refusal := adc (.absoluteY w) s

/-- `ADC ($nn,X)` (R231, R178). -/
def execAdcIndX (zp : Byte) (s : State) : Host.Outcome State Fault Refusal := adc (.indirectX zp) s

/-- `ADC ($nn),Y` (R231, R179). -/
def execAdcIndY (zp : Byte) (s : State) : Host.Outcome State Fault Refusal := adc (.indirectY zp) s

/-- SBC (R232): `AddC(A, ~M, P.C)`; the carry is "not borrow" (D2). -/
def sbc (o : Operand) (s : State) : Host.Outcome State Fault Refusal :=
  if s.refusesDecimal then .refused .decimalMode
  else readInto o s fun m => s.takeSum (addC s.a (~~~m) s.p.c)

/-- `SBC #$nn` (R232, R171). -/
def execSbcImm (v : Byte) (s : State) : Host.Outcome State Fault Refusal := sbc (.immediate v) s

/-- `SBC $nn` (R232, R172). -/
def execSbcZp (zp : Byte) (s : State) : Host.Outcome State Fault Refusal := sbc (.zeroPage zp) s

/-- `SBC $nn,X` (R232, R173). -/
def execSbcZpX (zp : Byte) (s : State) : Host.Outcome State Fault Refusal := sbc (.zeroPageX zp) s

/-- `SBC $nnnn` (R232, R175). -/
def execSbcAbs (w : Addr) (s : State) : Host.Outcome State Fault Refusal := sbc (.absolute w) s

/-- `SBC $nnnn,X` (R232, R176). -/
def execSbcAbsX (w : Addr) (s : State) : Host.Outcome State Fault Refusal := sbc (.absoluteX w) s

/-- `SBC $nnnn,Y` (R232, R177). -/
def execSbcAbsY (w : Addr) (s : State) : Host.Outcome State Fault Refusal := sbc (.absoluteY w) s

/-- `SBC ($nn,X)` (R232, R178). -/
def execSbcIndX (zp : Byte) (s : State) : Host.Outcome State Fault Refusal := sbc (.indirectX zp) s

/-- `SBC ($nn),Y` (R232, R179). -/
def execSbcIndY (zp : Byte) (s : State) : Host.Outcome State Fault Refusal := sbc (.indirectY zp) s

/-- AND (R233): `A <- A & M; setNZ(A)`. -/
def and (o : Operand) (s : State) : Host.Outcome State Fault Refusal :=
  readInto o s fun m => (s.setA (s.a &&& m)).setNZ (s.a &&& m)

/-- `AND #$nn` (R233, R171). -/
def execAndImm (v : Byte) (s : State) : Host.Outcome State Fault Refusal := and (.immediate v) s

/-- `AND $nn` (R233, R172). -/
def execAndZp (zp : Byte) (s : State) : Host.Outcome State Fault Refusal := and (.zeroPage zp) s

/-- `AND $nn,X` (R233, R173). -/
def execAndZpX (zp : Byte) (s : State) : Host.Outcome State Fault Refusal := and (.zeroPageX zp) s

/-- `AND $nnnn` (R233, R175). -/
def execAndAbs (w : Addr) (s : State) : Host.Outcome State Fault Refusal := and (.absolute w) s

/-- `AND $nnnn,X` (R233, R176). -/
def execAndAbsX (w : Addr) (s : State) : Host.Outcome State Fault Refusal := and (.absoluteX w) s

/-- `AND $nnnn,Y` (R233, R177). -/
def execAndAbsY (w : Addr) (s : State) : Host.Outcome State Fault Refusal := and (.absoluteY w) s

/-- `AND ($nn,X)` (R233, R178). -/
def execAndIndX (zp : Byte) (s : State) : Host.Outcome State Fault Refusal := and (.indirectX zp) s

/-- `AND ($nn),Y` (R233, R179). -/
def execAndIndY (zp : Byte) (s : State) : Host.Outcome State Fault Refusal := and (.indirectY zp) s

/-- ORA (R234): `A <- A | M; setNZ(A)`. -/
def ora (o : Operand) (s : State) : Host.Outcome State Fault Refusal :=
  readInto o s fun m => (s.setA (s.a ||| m)).setNZ (s.a ||| m)

/-- `ORA #$nn` (R234, R171). -/
def execOraImm (v : Byte) (s : State) : Host.Outcome State Fault Refusal := ora (.immediate v) s

/-- `ORA $nn` (R234, R172). -/
def execOraZp (zp : Byte) (s : State) : Host.Outcome State Fault Refusal := ora (.zeroPage zp) s

/-- `ORA $nn,X` (R234, R173). -/
def execOraZpX (zp : Byte) (s : State) : Host.Outcome State Fault Refusal := ora (.zeroPageX zp) s

/-- `ORA $nnnn` (R234, R175). -/
def execOraAbs (w : Addr) (s : State) : Host.Outcome State Fault Refusal := ora (.absolute w) s

/-- `ORA $nnnn,X` (R234, R176). -/
def execOraAbsX (w : Addr) (s : State) : Host.Outcome State Fault Refusal := ora (.absoluteX w) s

/-- `ORA $nnnn,Y` (R234, R177). -/
def execOraAbsY (w : Addr) (s : State) : Host.Outcome State Fault Refusal := ora (.absoluteY w) s

/-- `ORA ($nn,X)` (R234, R178). -/
def execOraIndX (zp : Byte) (s : State) : Host.Outcome State Fault Refusal := ora (.indirectX zp) s

/-- `ORA ($nn),Y` (R234, R179). -/
def execOraIndY (zp : Byte) (s : State) : Host.Outcome State Fault Refusal := ora (.indirectY zp) s

/-- EOR (R235): `A <- A ^ M; setNZ(A)`. -/
def eor (o : Operand) (s : State) : Host.Outcome State Fault Refusal :=
  readInto o s fun m => (s.setA (s.a ^^^ m)).setNZ (s.a ^^^ m)

/-- `EOR #$nn` (R235, R171). -/
def execEorImm (v : Byte) (s : State) : Host.Outcome State Fault Refusal := eor (.immediate v) s

/-- `EOR $nn` (R235, R172). -/
def execEorZp (zp : Byte) (s : State) : Host.Outcome State Fault Refusal := eor (.zeroPage zp) s

/-- `EOR $nn,X` (R235, R173). -/
def execEorZpX (zp : Byte) (s : State) : Host.Outcome State Fault Refusal := eor (.zeroPageX zp) s

/-- `EOR $nnnn` (R235, R175). -/
def execEorAbs (w : Addr) (s : State) : Host.Outcome State Fault Refusal := eor (.absolute w) s

/-- `EOR $nnnn,X` (R235, R176). -/
def execEorAbsX (w : Addr) (s : State) : Host.Outcome State Fault Refusal := eor (.absoluteX w) s

/-- `EOR $nnnn,Y` (R235, R177). -/
def execEorAbsY (w : Addr) (s : State) : Host.Outcome State Fault Refusal := eor (.absoluteY w) s

/-- `EOR ($nn,X)` (R235, R178). -/
def execEorIndX (zp : Byte) (s : State) : Host.Outcome State Fault Refusal := eor (.indirectX zp) s

/-- `EOR ($nn),Y` (R235, R179). -/
def execEorIndY (zp : Byte) (s : State) : Host.Outcome State Fault Refusal := eor (.indirectY zp) s

end Sys2Proof.Machine
end

