-- ==== Sys2Proof/Machine/BitTest.lean ====
section
/-! DEFINITION. BIT (46_stack_flags_bit_brk.md R321). -/

namespace Sys2Proof.Machine

/-- BIT (R321): A is not written. -/
def bit (o : Operand) (s : State) : Host.Outcome State Fault Refusal :=
  readInto o s fun m => s.setP (s.p.bitTest s.a m)

/-- `BIT $nn` (R321, R172). -/
def execBitZp (zp : Byte) (s : State) : Host.Outcome State Fault Refusal := bit (.zeroPage zp) s

/-- `BIT $nnnn` (R321, R175). -/
def execBitAbs (w : Addr) (s : State) : Host.Outcome State Fault Refusal := bit (.absolute w) s

end Sys2Proof.Machine
end

