-- ==== Sys2Proof/Machine/Branch.lean ====
section
/-! DEFINITION. Conditional branches (45_control_transfer.md R280 to R288). Flags are read and none is written. -/

namespace Sys2Proof.Machine

/-- `Branch(cond)` (R280): a taken branch sets PC to the Relative effective address and `pcSet`; one not taken
receives the generic advance. -/
def branch (cond : Bool) (d : Byte) (s : State) : Host.Outcome State Fault Refusal :=
  withAddress (.relative d) s fun target =>
    finish (Operand.relative d).length cond (if cond then s.setPC target else s)

/-- BCC (R281): `Branch(P.C == 0)`. -/
def execBcc (d : Byte) (s : State) : Host.Outcome State Fault Refusal := branch (!s.p.c) d s

/-- BCS (R282): `Branch(P.C == 1)`. -/
def execBcs (d : Byte) (s : State) : Host.Outcome State Fault Refusal := branch (s.p.c) d s

/-- BEQ (R283): `Branch(P.Z == 1)`. -/
def execBeq (d : Byte) (s : State) : Host.Outcome State Fault Refusal := branch (s.p.z) d s

/-- BNE (R284): `Branch(P.Z == 0)`. -/
def execBne (d : Byte) (s : State) : Host.Outcome State Fault Refusal := branch (!s.p.z) d s

/-- BMI (R285): `Branch(P.N == 1)`. -/
def execBmi (d : Byte) (s : State) : Host.Outcome State Fault Refusal := branch (s.p.n) d s

/-- BPL (R286): `Branch(P.N == 0)`. -/
def execBpl (d : Byte) (s : State) : Host.Outcome State Fault Refusal := branch (!s.p.n) d s

/-- BVC (R287): `Branch(P.V == 0)`. -/
def execBvc (d : Byte) (s : State) : Host.Outcome State Fault Refusal := branch (!s.p.v) d s

/-- BVS (R288): `Branch(P.V == 1)`. -/
def execBvs (d : Byte) (s : State) : Host.Outcome State Fault Refusal := branch (s.p.v) d s

end Sys2Proof.Machine
end

