-- ==== Sys2Proof/Machine/Compare.lean ====
section
/-! DEFINITION. Compares: CMP, CPX, CPY (44_shift_incdec_compare.md R261 to R264). No register or memory byte is written. -/

namespace Sys2Proof.Machine

/-- CMP (R262): `Compare(A, M)`. -/
def cmp (o : Operand) (s : State) : Host.Outcome State Fault Refusal :=
  readInto o s fun m => s.setP (s.p.compare s.a m)

/-- `CMP #$nn` (R262, R171). -/
def execCmpImm (v : Byte) (s : State) : Host.Outcome State Fault Refusal := cmp (.immediate v) s

/-- `CMP $nn` (R262, R172). -/
def execCmpZp (zp : Byte) (s : State) : Host.Outcome State Fault Refusal := cmp (.zeroPage zp) s

/-- `CMP $nn,X` (R262, R173). -/
def execCmpZpX (zp : Byte) (s : State) : Host.Outcome State Fault Refusal := cmp (.zeroPageX zp) s

/-- `CMP $nnnn` (R262, R175). -/
def execCmpAbs (w : Addr) (s : State) : Host.Outcome State Fault Refusal := cmp (.absolute w) s

/-- `CMP $nnnn,X` (R262, R176). -/
def execCmpAbsX (w : Addr) (s : State) : Host.Outcome State Fault Refusal := cmp (.absoluteX w) s

/-- `CMP $nnnn,Y` (R262, R177). -/
def execCmpAbsY (w : Addr) (s : State) : Host.Outcome State Fault Refusal := cmp (.absoluteY w) s

/-- `CMP ($nn,X)` (R262, R178). -/
def execCmpIndX (zp : Byte) (s : State) : Host.Outcome State Fault Refusal := cmp (.indirectX zp) s

/-- `CMP ($nn),Y` (R262, R179). -/
def execCmpIndY (zp : Byte) (s : State) : Host.Outcome State Fault Refusal := cmp (.indirectY zp) s

/-- CPX (R263): `Compare(X, M)`. -/
def cpx (o : Operand) (s : State) : Host.Outcome State Fault Refusal :=
  readInto o s fun m => s.setP (s.p.compare s.x m)

/-- `CPX #$nn` (R263, R171). -/
def execCpxImm (v : Byte) (s : State) : Host.Outcome State Fault Refusal := cpx (.immediate v) s

/-- `CPX $nn` (R263, R172). -/
def execCpxZp (zp : Byte) (s : State) : Host.Outcome State Fault Refusal := cpx (.zeroPage zp) s

/-- `CPX $nnnn` (R263, R175). -/
def execCpxAbs (w : Addr) (s : State) : Host.Outcome State Fault Refusal := cpx (.absolute w) s

/-- CPY (R264): `Compare(Y, M)`. -/
def cpy (o : Operand) (s : State) : Host.Outcome State Fault Refusal :=
  readInto o s fun m => s.setP (s.p.compare s.y m)

/-- `CPY #$nn` (R264, R171). -/
def execCpyImm (v : Byte) (s : State) : Host.Outcome State Fault Refusal := cpy (.immediate v) s

/-- `CPY $nn` (R264, R172). -/
def execCpyZp (zp : Byte) (s : State) : Host.Outcome State Fault Refusal := cpy (.zeroPage zp) s

/-- `CPY $nnnn` (R264, R175). -/
def execCpyAbs (w : Addr) (s : State) : Host.Outcome State Fault Refusal := cpy (.absolute w) s

end Sys2Proof.Machine
end

