-- ==== Sys2Proof/Machine/FlagOps.lean ====
section
/-! DEFINITION. Flag instructions (46_stack_flags_bit_brk.md R314 to R320): each writes exactly the one flag it names. -/

namespace Sys2Proof.Machine

/-- CLC (R314): `P.C <- 0`. -/
def execClc (s : State) : Host.Outcome State Fault Refusal := implied (s.setP { s.p with c := false })

/-- SEC (R315): `P.C <- 1`. -/
def execSec (s : State) : Host.Outcome State Fault Refusal := implied (s.setP { s.p with c := true })

/-- CLI (R316): `P.I <- 0`. -/
def execCli (s : State) : Host.Outcome State Fault Refusal := implied (s.setP { s.p with i := false })

/-- SEI (R317): `P.I <- 1`. -/
def execSei (s : State) : Host.Outcome State Fault Refusal := implied (s.setP { s.p with i := true })

/-- CLD (R318): `P.D <- 0`. -/
def execCld (s : State) : Host.Outcome State Fault Refusal := implied (s.setP { s.p with d := false })

/-- SED (R319): `P.D <- 1`. -/
def execSed (s : State) : Host.Outcome State Fault Refusal := implied (s.setP { s.p with d := true })

/-- CLV (R320): `P.V <- 0`. -/
def execClv (s : State) : Host.Outcome State Fault Refusal := implied (s.setP { s.p with v := false })

end Sys2Proof.Machine
end

