-- ==== Sys2Proof/Machine/IncDec.lean ====
section
/-! DEFINITION. Increments and decrements (44_shift_incdec_compare.md R255 to R260), modulo 256. C and V are unchanged. -/

namespace Sys2Proof.Machine

/-- INC (R255). -/
def inc (o : Operand) (s : State) : Host.Outcome State Fault Refusal :=
  modifyOperand o s fun v p => (v + 1#8, p.setNZ (v + 1#8))

/-- `INC $nn` (R255, R172). -/
def execIncZp (zp : Byte) (s : State) : Host.Outcome State Fault Refusal := inc (.zeroPage zp) s

/-- `INC $nn,X` (R255, R173). -/
def execIncZpX (zp : Byte) (s : State) : Host.Outcome State Fault Refusal := inc (.zeroPageX zp) s

/-- `INC $nnnn` (R255, R175). -/
def execIncAbs (w : Addr) (s : State) : Host.Outcome State Fault Refusal := inc (.absolute w) s

/-- `INC $nnnn,X` (R255, R176). -/
def execIncAbsX (w : Addr) (s : State) : Host.Outcome State Fault Refusal := inc (.absoluteX w) s

/-- DEC (R256). -/
def dec (o : Operand) (s : State) : Host.Outcome State Fault Refusal :=
  modifyOperand o s fun v p => (v - 1#8, p.setNZ (v - 1#8))

/-- `DEC $nn` (R256, R172). -/
def execDecZp (zp : Byte) (s : State) : Host.Outcome State Fault Refusal := dec (.zeroPage zp) s

/-- `DEC $nn,X` (R256, R173). -/
def execDecZpX (zp : Byte) (s : State) : Host.Outcome State Fault Refusal := dec (.zeroPageX zp) s

/-- `DEC $nnnn` (R256, R175). -/
def execDecAbs (w : Addr) (s : State) : Host.Outcome State Fault Refusal := dec (.absolute w) s

/-- `DEC $nnnn,X` (R256, R176). -/
def execDecAbsX (w : Addr) (s : State) : Host.Outcome State Fault Refusal := dec (.absoluteX w) s

/-- INX (R257): `X <- X + 1; setNZ(X)`. -/
def execInx (s : State) : Host.Outcome State Fault Refusal := implied ((s.setX (s.x + 1#8)).setNZ (s.x + 1#8))

/-- INY (R258): `Y <- Y + 1; setNZ(Y)`. -/
def execIny (s : State) : Host.Outcome State Fault Refusal := implied ((s.setY (s.y + 1#8)).setNZ (s.y + 1#8))

/-- DEX (R259): `X <- X - 1; setNZ(X)`. -/
def execDex (s : State) : Host.Outcome State Fault Refusal := implied ((s.setX (s.x - 1#8)).setNZ (s.x - 1#8))

/-- DEY (R260): `Y <- Y - 1; setNZ(Y)`. -/
def execDey (s : State) : Host.Outcome State Fault Refusal := implied ((s.setY (s.y - 1#8)).setNZ (s.y - 1#8))

end Sys2Proof.Machine
end

