-- ==== Sys2Proof/Machine/Jump.lean ====
section
/-! DEFINITION. Jumps, calls and returns (45_control_transfer.md R289 to R292). Each sets PC itself (`pcSet`, R152). -/

namespace Sys2Proof.Machine

/-- JMP (R289), Absolute: `PC <- ea`. -/
def jmpAbsolute (o : Operand) (s : State) : Host.Outcome State Fault Refusal :=
  withAddress o s fun ea => finish o.length true (s.setPC ea)

/-- JMP (R289), Indirect: the target is the word at the pointer. -/
def jmpIndirect (o : Operand) (s : State) : Host.Outcome State Fault Refusal :=
  withAddress o s fun ptr => finish o.length true (s.setPC (s.indirectTarget ptr))

/-- JSR (R290): push `pc1 + 1`, the address of the last byte of the instruction (C2, D9), then jump. -/
def jsr (o : Operand) (s : State) : Host.Outcome State Fault Refusal :=
  withAddress o s fun target => finish o.length true ((s.push16 (s.pc + 1#16)).setPC target)

/-- `JMP $nnnn` (R289, R175). -/
def execJmpAbs (w : Addr) (s : State) : Host.Outcome State Fault Refusal := jmpAbsolute (.absolute w) s

/-- `JMP ($nnnn)` (R289, R181). -/
def execJmpInd (w : Addr) (s : State) : Host.Outcome State Fault Refusal := jmpIndirect (.indirect w) s

/-- `JSR $nnnn` (R290, R175). -/
def execJsr (w : Addr) (s : State) : Host.Outcome State Fault Refusal := jsr (.absolute w) s

/-- RTS (R291): `PC <- Pull16() + 1`. -/
def execRts (s : State) : Host.Outcome State Fault Refusal :=
  let ret := s.pull16
  finish Operand.implied.length true (ret.2.setPC (ret.1 + 1#16))

/-- RTI (R292): the trap return (R348). -/
def execRti (s : State) : Host.Outcome State Fault Refusal := finish Operand.implied.length true s.trapReturn

end Sys2Proof.Machine
end

