-- ==== Sys2Proof/Machine/Load.lean ====
section
/-! DEFINITION. Loads: LDA, LDX, LDY (42_load_store_transfer.md R200 to R202). -/

namespace Sys2Proof.Machine

/-- LDA (R200): `A <- M; setNZ(A)`. -/
def lda (o : Operand) (s : State) : Host.Outcome State Fault Refusal :=
  readInto o s fun m => (s.setA m).setNZ m

/-- `LDA #$nn` (R200, R171). -/
def execLdaImm (v : Byte) (s : State) : Host.Outcome State Fault Refusal := lda (.immediate v) s

/-- `LDA $nn` (R200, R172). -/
def execLdaZp (zp : Byte) (s : State) : Host.Outcome State Fault Refusal := lda (.zeroPage zp) s

/-- `LDA $nn,X` (R200, R173). -/
def execLdaZpX (zp : Byte) (s : State) : Host.Outcome State Fault Refusal := lda (.zeroPageX zp) s

/-- `LDA $nnnn` (R200, R175). -/
def execLdaAbs (w : Addr) (s : State) : Host.Outcome State Fault Refusal := lda (.absolute w) s

/-- `LDA $nnnn,X` (R200, R176). -/
def execLdaAbsX (w : Addr) (s : State) : Host.Outcome State Fault Refusal := lda (.absoluteX w) s

/-- `LDA $nnnn,Y` (R200, R177). -/
def execLdaAbsY (w : Addr) (s : State) : Host.Outcome State Fault Refusal := lda (.absoluteY w) s

/-- `LDA ($nn,X)` (R200, R178). -/
def execLdaIndX (zp : Byte) (s : State) : Host.Outcome State Fault Refusal := lda (.indirectX zp) s

/-- `LDA ($nn),Y` (R200, R179). -/
def execLdaIndY (zp : Byte) (s : State) : Host.Outcome State Fault Refusal := lda (.indirectY zp) s

/-- LDX (R201): `X <- M; setNZ(X)`. -/
def ldx (o : Operand) (s : State) : Host.Outcome State Fault Refusal :=
  readInto o s fun m => (s.setX m).setNZ m

/-- `LDX #$nn` (R201, R171). -/
def execLdxImm (v : Byte) (s : State) : Host.Outcome State Fault Refusal := ldx (.immediate v) s

/-- `LDX $nn` (R201, R172). -/
def execLdxZp (zp : Byte) (s : State) : Host.Outcome State Fault Refusal := ldx (.zeroPage zp) s

/-- `LDX $nn,Y` (R201, R174). -/
def execLdxZpY (zp : Byte) (s : State) : Host.Outcome State Fault Refusal := ldx (.zeroPageY zp) s

/-- `LDX $nnnn` (R201, R175). -/
def execLdxAbs (w : Addr) (s : State) : Host.Outcome State Fault Refusal := ldx (.absolute w) s

/-- `LDX $nnnn,Y` (R201, R177). -/
def execLdxAbsY (w : Addr) (s : State) : Host.Outcome State Fault Refusal := ldx (.absoluteY w) s

/-- LDY (R202): `Y <- M; setNZ(Y)`. -/
def ldy (o : Operand) (s : State) : Host.Outcome State Fault Refusal :=
  readInto o s fun m => (s.setY m).setNZ m

/-- `LDY #$nn` (R202, R171). -/
def execLdyImm (v : Byte) (s : State) : Host.Outcome State Fault Refusal := ldy (.immediate v) s

/-- `LDY $nn` (R202, R172). -/
def execLdyZp (zp : Byte) (s : State) : Host.Outcome State Fault Refusal := ldy (.zeroPage zp) s

/-- `LDY $nn,X` (R202, R173). -/
def execLdyZpX (zp : Byte) (s : State) : Host.Outcome State Fault Refusal := ldy (.zeroPageX zp) s

/-- `LDY $nnnn` (R202, R175). -/
def execLdyAbs (w : Addr) (s : State) : Host.Outcome State Fault Refusal := ldy (.absolute w) s

/-- `LDY $nnnn,X` (R202, R176). -/
def execLdyAbsX (w : Addr) (s : State) : Host.Outcome State Fault Refusal := ldy (.absoluteX w) s

end Sys2Proof.Machine
end

