-- ==== Sys2Proof/Machine/Shift.lean ====
section
/-! DEFINITION. Shifts and rotates of A or of a memory byte (44_shift_incdec_compare.md R250 to R254). -/

namespace Sys2Proof.Machine

/-- ASL (R251). -/
def asl (o : Operand) (s : State) : Host.Outcome State Fault Refusal :=
  modifyOperand o s fun v p => let r := shiftLeft v; (r.value, p.afterShift r)

/-- `ASL A` (R251, R182). -/
def execAslAcc (s : State) : Host.Outcome State Fault Refusal := asl .accumulator s

/-- `ASL $nn` (R251, R172). -/
def execAslZp (zp : Byte) (s : State) : Host.Outcome State Fault Refusal := asl (.zeroPage zp) s

/-- `ASL $nn,X` (R251, R173). -/
def execAslZpX (zp : Byte) (s : State) : Host.Outcome State Fault Refusal := asl (.zeroPageX zp) s

/-- `ASL $nnnn` (R251, R175). -/
def execAslAbs (w : Addr) (s : State) : Host.Outcome State Fault Refusal := asl (.absolute w) s

/-- `ASL $nnnn,X` (R251, R176). -/
def execAslAbsX (w : Addr) (s : State) : Host.Outcome State Fault Refusal := asl (.absoluteX w) s

/-- LSR (R252). -/
def lsr (o : Operand) (s : State) : Host.Outcome State Fault Refusal :=
  modifyOperand o s fun v p => let r := shiftRight v; (r.value, p.afterShift r)

/-- `LSR A` (R252, R182). -/
def execLsrAcc (s : State) : Host.Outcome State Fault Refusal := lsr .accumulator s

/-- `LSR $nn` (R252, R172). -/
def execLsrZp (zp : Byte) (s : State) : Host.Outcome State Fault Refusal := lsr (.zeroPage zp) s

/-- `LSR $nn,X` (R252, R173). -/
def execLsrZpX (zp : Byte) (s : State) : Host.Outcome State Fault Refusal := lsr (.zeroPageX zp) s

/-- `LSR $nnnn` (R252, R175). -/
def execLsrAbs (w : Addr) (s : State) : Host.Outcome State Fault Refusal := lsr (.absolute w) s

/-- `LSR $nnnn,X` (R252, R176). -/
def execLsrAbsX (w : Addr) (s : State) : Host.Outcome State Fault Refusal := lsr (.absoluteX w) s

/-- ROL (R253): the carry in is P.C before the instruction. -/
def rol (o : Operand) (s : State) : Host.Outcome State Fault Refusal :=
  modifyOperand o s fun v p => let r := rotateLeft v p.c; (r.value, p.afterShift r)

/-- `ROL A` (R253, R182). -/
def execRolAcc (s : State) : Host.Outcome State Fault Refusal := rol .accumulator s

/-- `ROL $nn` (R253, R172). -/
def execRolZp (zp : Byte) (s : State) : Host.Outcome State Fault Refusal := rol (.zeroPage zp) s

/-- `ROL $nn,X` (R253, R173). -/
def execRolZpX (zp : Byte) (s : State) : Host.Outcome State Fault Refusal := rol (.zeroPageX zp) s

/-- `ROL $nnnn` (R253, R175). -/
def execRolAbs (w : Addr) (s : State) : Host.Outcome State Fault Refusal := rol (.absolute w) s

/-- `ROL $nnnn,X` (R253, R176). -/
def execRolAbsX (w : Addr) (s : State) : Host.Outcome State Fault Refusal := rol (.absoluteX w) s

/-- ROR (R254): the carry in is P.C before the instruction. -/
def ror (o : Operand) (s : State) : Host.Outcome State Fault Refusal :=
  modifyOperand o s fun v p => let r := rotateRight v p.c; (r.value, p.afterShift r)

/-- `ROR A` (R254, R182). -/
def execRorAcc (s : State) : Host.Outcome State Fault Refusal := ror .accumulator s

/-- `ROR $nn` (R254, R172). -/
def execRorZp (zp : Byte) (s : State) : Host.Outcome State Fault Refusal := ror (.zeroPage zp) s

/-- `ROR $nn,X` (R254, R173). -/
def execRorZpX (zp : Byte) (s : State) : Host.Outcome State Fault Refusal := ror (.zeroPageX zp) s

/-- `ROR $nnnn` (R254, R175). -/
def execRorAbs (w : Addr) (s : State) : Host.Outcome State Fault Refusal := ror (.absolute w) s

/-- `ROR $nnnn,X` (R254, R176). -/
def execRorAbsX (w : Addr) (s : State) : Host.Outcome State Fault Refusal := ror (.absoluteX w) s

end Sys2Proof.Machine
end

