-- ==== Sys2Proof/Machine/Stack.lean ====
section
/-! DEFINITION. Stack instructions (46_stack_flags_bit_brk.md R310 to R313). -/

namespace Sys2Proof.Machine

/-- PHA (R310): `Push8(A)`. -/
def execPha (s : State) : Host.Outcome State Fault Refusal := implied (s.push8 s.a)

/-- PHP (R311): `Push8(PushedP())`; P itself is unchanged. -/
def execPhp (s : State) : Host.Outcome State Fault Refusal := implied (s.push8 s.p.pushed)

/-- PLA (R312): `A <- Pull8(); setNZ(A)`. -/
def execPla (s : State) : Host.Outcome State Fault Refusal :=
  let pulled := s.pull8
  implied ((pulled.2.setA pulled.1).setNZ pulled.1)

/-- PLP (R313): `SetPFromPulled(Pull8())`. -/
def execPlp (s : State) : Host.Outcome State Fault Refusal :=
  let pulled := s.pull8
  implied (pulled.2.setP (Flags.ofPulled pulled.1))

end Sys2Proof.Machine
end

