-- ==== Sys2Proof/Machine/Store.lean ====
section
/-! DEFINITION. Stores: STA, STX, STY (42_load_store_transfer.md R203 to R205). No flag is written (C5). -/

namespace Sys2Proof.Machine

/-- STA (R203): `MemWrite(ea, 1, A)`. -/
def sta (o : Operand) (s : State) : Host.Outcome State Fault Refusal :=
  storeByte o s s.a

/-- `STA $nn` (R203, R172). -/
def execStaZp (zp : Byte) (s : State) : Host.Outcome State Fault Refusal := sta (.zeroPage zp) s

/-- `STA $nn,X` (R203, R173). -/
def execStaZpX (zp : Byte) (s : State) : Host.Outcome State Fault Refusal := sta (.zeroPageX zp) s

/-- `STA $nnnn` (R203, R175). -/
def execStaAbs (w : Addr) (s : State) : Host.Outcome State Fault Refusal := sta (.absolute w) s

/-- `STA $nnnn,X` (R203, R176). -/
def execStaAbsX (w : Addr) (s : State) : Host.Outcome State Fault Refusal := sta (.absoluteX w) s

/-- `STA $nnnn,Y` (R203, R177). -/
def execStaAbsY (w : Addr) (s : State) : Host.Outcome State Fault Refusal := sta (.absoluteY w) s

/-- `STA ($nn,X)` (R203, R178). -/
def execStaIndX (zp : Byte) (s : State) : Host.Outcome State Fault Refusal := sta (.indirectX zp) s

/-- `STA ($nn),Y` (R203, R179). -/
def execStaIndY (zp : Byte) (s : State) : Host.Outcome State Fault Refusal := sta (.indirectY zp) s

/-- STX (R204): `MemWrite(ea, 1, X)`. -/
def stx (o : Operand) (s : State) : Host.Outcome State Fault Refusal :=
  storeByte o s s.x

/-- `STX $nn` (R204, R172). -/
def execStxZp (zp : Byte) (s : State) : Host.Outcome State Fault Refusal := stx (.zeroPage zp) s

/-- `STX $nn,Y` (R204, R174). -/
def execStxZpY (zp : Byte) (s : State) : Host.Outcome State Fault Refusal := stx (.zeroPageY zp) s

/-- `STX $nnnn` (R204, R175). -/
def execStxAbs (w : Addr) (s : State) : Host.Outcome State Fault Refusal := stx (.absolute w) s

/-- STY (R205): `MemWrite(ea, 1, Y)`. -/
def sty (o : Operand) (s : State) : Host.Outcome State Fault Refusal :=
  storeByte o s s.y

/-- `STY $nn` (R205, R172). -/
def execStyZp (zp : Byte) (s : State) : Host.Outcome State Fault Refusal := sty (.zeroPage zp) s

/-- `STY $nn,X` (R205, R173). -/
def execStyZpX (zp : Byte) (s : State) : Host.Outcome State Fault Refusal := sty (.zeroPageX zp) s

/-- `STY $nnnn` (R205, R175). -/
def execStyAbs (w : Addr) (s : State) : Host.Outcome State Fault Refusal := sty (.absolute w) s

end Sys2Proof.Machine
end

