-- ==== Sys2Proof/Machine/System.lean ====
section
/-! DEFINITION. BRK and NOP (46_stack_flags_bit_brk.md R322, R323). -/

namespace Sys2Proof.Machine

/-- BRK (R322): the trap entry, and the normal halt of R147, which is a next state with mode Halted (log 3). PC stays at
`pc1`: the generic advance of a one-byte instruction adds 0. -/
def execBrk (s : State) : Host.Outcome State Fault Refusal := finish Operand.implied.length false s.trapEntry

/-- NOP (R323): only the generic advance. -/
def execNop (s : State) : Host.Outcome State Fault Refusal := implied s

end Sys2Proof.Machine
end

