-- ==== Sys2Proof/Machine/Transfer.lean ====
section
/-! DEFINITION. Register transfers (42_load_store_transfer.md R206 to R211). -/

namespace Sys2Proof.Machine

/-- TAX (R206): `X <- A; setNZ(X)`. -/
def execTax (s : State) : Host.Outcome State Fault Refusal := implied ((s.setX s.a).setNZ s.a)

/-- TXA (R207): `A <- X; setNZ(A)`. -/
def execTxa (s : State) : Host.Outcome State Fault Refusal := implied ((s.setA s.x).setNZ s.x)

/-- TAY (R208): `Y <- A; setNZ(Y)`. -/
def execTay (s : State) : Host.Outcome State Fault Refusal := implied ((s.setY s.a).setNZ s.a)

/-- TYA (R209): `A <- Y; setNZ(A)`. -/
def execTya (s : State) : Host.Outcome State Fault Refusal := implied ((s.setA s.y).setNZ s.y)

/-- TSX (R210): `X <- SP; setNZ(X)`. -/
def execTsx (s : State) : Host.Outcome State Fault Refusal := implied ((s.setX s.sp).setNZ s.sp)

/-- TXS (R211): `SP <- X`, no flag written. -/
def execTxs (s : State) : Host.Outcome State Fault Refusal := implied (s.setSP s.x)

end Sys2Proof.Machine
end

