-- ==== Sys2Proof/Machine/Fetch.lean ====
section
/-! DEFINITION. Fetch and decode at PC (40_execution_loop.md R141, R142). -/

namespace Sys2Proof.Machine

/-- The three bytes at PC, addresses modulo 65536 (R100, R153): the longest instruction. Reading has no side effect
(R73), so reading all three changes nothing for a shorter one. -/
def State.fetchBytes (s : State) : List Byte := [s.read s.pc, s.read (s.pc + 1#16), s.read (s.pc + 2#16)]

/-- The instruction at PC, if the opcode byte has a row (R142). -/
def State.fetchInstr (s : State) : Option Instr :=
  match decode s.fetchBytes with
  | .ok (i, _) => some i
  | .error _ => none

/-- The state after the fetch of the opcode byte: PC is `pc1` (R141). -/
def State.fetched (s : State) : State := s.setPC (s.pc + 1#16)

/-- The fault of a fetch whose opcode byte has no row (R142, R341): the fetch's advance of PC is kept. -/
def State.raiseUnsupportedOpcode (s : State) : Host.Outcome State Fault Refusal :=
  raise (.unsupportedOpcode (s.read s.pc) s.pc) s.fetched

/-- The host places an instruction's bytes at PC (70_reset_and_hazards.md R382), three of them. -/
def State.placeAtPC (s : State) (bytes : List Byte) : State :=
  match bytes with
  | [] => s
  | [b0] => s.write s.pc b0
  | [b0, b1] => (s.write s.pc b0).write (s.pc + 1#16) b1
  | b0 :: b1 :: b2 :: _ => ((s.write s.pc b0).write (s.pc + 1#16) b1).write (s.pc + 2#16) b2

/-- Ready for the next fetch: Running, with no fault report. -/
def State.readyToFetch (s : State) : State := (s.setMode .running).setFault none

end Sys2Proof.Machine
end

