-- ==== Sys2Proof/Machine/Step.lean ====
section
/-! DEFINITION. One step of the engine (40_execution_loop.md R140): fetch, decode, and the instruction's meaning, which
resolves, executes and advances. -/

namespace Sys2Proof.Machine

/-- One step. It is enabled only when the mode is Running (R140, R154). A byte with no descriptor ends the step with
the fault of R142; otherwise the instruction executes with PC at `pc1` (R144). -/
def step (s : State) : Host.Outcome State Fault Refusal :=
  match s.mode with
  | .running =>
    match s.fetchInstr with
    | some i => exec i s.fetched
    | none => s.raiseUnsupportedOpcode
  | mode => .refused (.stepNotEnabled mode)

/-- `s` with the table word `w` (log 7) stored at PC, where `step` fetches, in a state in which a step is enabled. -/
def State.withFetchWord (s : State) (nbits w : Nat) : State :=
  (s.placeAtPC (tableWordBytes nbits w)).readyToFetch

end Sys2Proof.Machine
end

