-- ==== Sys2Proof/Machine/HostOps.lean ====
section
/-! DEFINITION. The host operations (70_reset_and_hazards.md R370 to R385). They are not steps: each takes the whole
state between runs and gives a new one. A Faulted state is refused by all of them but reading (D20). -/

namespace Sys2Proof.Machine

/-- Creation (R56, R370): every field zero, Running, no fault report. The parameters are the model's arguments (R8). -/
def State.create (cfg : Params) : State :=
  { a := 0x00#8, x := 0x00#8, y := 0x00#8, p := Flags.zero, sp := 0x00#8, pc := 0x0000#16, mem := [],
    mode := .running, fault := none, cfg := cfg }

/-- Refuse on a Faulted state (R383), go on otherwise. -/
def unlessFaulted (s : State) (k : Host.Outcome State Fault Refusal) : Host.Outcome State Fault Refusal :=
  match s.mode with
  | .faulted => .refused .hostOnFaulted
  | _ => k

/-- The fields `reset` writes (R371). Memory is not written (D25). -/
def State.afterReset (s : State) : State :=
  { s with
    a := 0x00#8, x := 0x00#8, y := 0x00#8, p := Flags.zero, sp := 0xFF#8, pc := s.readWord resetVector,
    mode := .running }

/-- `reset()` (R371). -/
def hostReset (s : State) : Host.Outcome State Fault Refusal := unlessFaulted s (.next s.afterReset)

/-- Copy bytes to memory from `addr` upwards, in order. -/
def State.copyTo (s : State) (addr : Addr) : List Byte → State
  | [] => s
  | b :: rest => (s.write addr b).copyTo (addr + 1#16) rest

/-- `load(bytes)` (R377): the image at 0x8000 first, then 0x8000 into the reset vector; more than 0x8000 bytes are
refused (R384). -/
def hostLoad (bytes : List Byte) (s : State) : Host.Outcome State Fault Refusal :=
  unlessFaulted s
    (if 0x8000 < bytes.length then .refused (.programTooLarge bytes.length)
     else .next ((s.copyTo loadBase bytes).writeWord resetVector loadBase))

/-- A Halted state is set back to Running (R379). -/
def State.resume (s : State) : State := if s.mode = .halted then s.setMode .running else s

/-- At most `fuel` steps of the loop of R379: the outcome of the step that ended it, or none where no step has ended it
yet. `Halt` is a next state with mode Halted (log 3). -/
def runLoop : Nat → State → Option (Host.Outcome State Fault Refusal)
  | 0, _ => none
  | fuel + 1, s =>
    match step s with
    | .next t => if t.mode = .halted then some (.next t) else runLoop fuel t
    | o => some o

/-- `run()` (R155, R379) with a bound on the steps looked at, which the spec's `run` does not have (log 14). -/
def hostRun (fuel : Nat) (s : State) : Option (Host.Outcome State Fault Refusal) :=
  if s.mode = .faulted then some (.refused .hostOnFaulted) else runLoop fuel s.resume

/-- `step()` of the host (R380): one step, a Halted state resumed first. -/
def hostStep (s : State) : Host.Outcome State Fault Refusal := unlessFaulted s (step s.resume)

/-- `load_and_run(bytes)` (R378): load, reset, run; what is refused ends it. -/
def hostLoadAndRun (fuel : Nat) (bytes : List Byte) (s : State) : Option (Host.Outcome State Fault Refusal) :=
  match hostLoad bytes s with
  | .next t =>
    match hostReset t with
    | .next u => hostRun fuel u
    | o => some o
  | o => some o

/-- What the host may write between operations (R382). -/
inductive HostWrite where
  | a (v : Byte)
  | x (v : Byte)
  | y (v : Byte)
  | sp (v : Byte)
  | pc (v : Addr)
  /-- The seven stored flags. -/
  | flags (v : Flags)
  /-- P as a byte: bit 5 of it is ignored (R45, U13). -/
  | status (v : Byte)
  | memory (addr : Addr) (v : Byte)
  deriving DecidableEq, Repr

/-- The flags a host write of P as a byte leaves: every bit but bit 5, bit 4 included (R382; log 15). -/
def Flags.ofHostByte (v : Byte) : Flags := { Flags.ofPulled v with b := v.getLsbD 4 }

/-- A host write (R382). It changes the named field alone; `mode` and `fault` cannot be written. -/
def hostWrite (w : HostWrite) (s : State) : Host.Outcome State Fault Refusal :=
  unlessFaulted s
    (match w with
     | .a v => .next (s.setA v)
     | .x v => .next (s.setX v)
     | .y v => .next (s.setY v)
     | .sp v => .next (s.setSP v)
     | .pc v => .next (s.setPC v)
     | .flags v => .next (s.setP v)
     | .status v => .next (s.setP (Flags.ofHostByte v))
     | .memory addr v => .next (s.write addr v))

/-- The code a model reports when a run stops (60_exceptions.md R357): 0 for the BRK halt, 1 and 2 for the faults, 3 for
an oversized load; no code otherwise. -/
def stopCode : Host.Outcome State Fault Refusal → Option Nat
  | .next s => if s.mode = .halted then some 0 else none
  | .fault (.unsupportedOpcode _ _ _) => some 1
  | .fault (.unsupportedAddressingMode _ _) => some 2
  | .refused (.programTooLarge _) => some 3
  | .refused _ => none

end Sys2Proof.Machine
end

