-- ==== Sys2Proof/Safety.lean ====
section
/-! DEFINITION. The terms claims are made in: how a run ends (40_execution_loop.md R150, R155), the invariant of the
machine's state, and when two states differ in one flag only. -/

namespace Sys2Proof.Machine

/-- The run `run()` starts from `s` ends with outcome `o` (R155). -/
def RunEnds (s : State) (o : Host.Outcome State Fault Refusal) : Prop := ∃ fuel, hostRun fuel s = some o

/-- The run from `s` ends successfully in `t`: its last step is the BRK halt (R150). A fault, a refusal and an endless
run are no successful end. -/
def RunSucceeds (s t : State) : Prop := RunEnds s (.next t)

/-- The run from `s` never ends (R150, R155). -/
def RunHangs (s : State) : Prop := ∀ fuel, hostRun fuel s = none

/-- What every state the machine passes through satisfies: the memory keeps its canonical form (R51, R92), and a fault
report is there exactly when the mode is Faulted (R53). -/
def State.Inv (s : State) : Prop := Memory.wf s.mem = true ∧ (s.mode = .faulted ↔ s.fault.isSome = true)

/-- The state a fault leaves (R340, R385; log 4). -/
def Fault.after : Fault → State
  | .unsupportedOpcode _ _ t => t
  | .unsupportedAddressingMode _ t => t

/-- The states agree in everything but the interrupt-disable flag (R41). -/
def SameButI (s t : State) : Prop := s.setP { s.p with i := false } = t.setP { t.p with i := false }

/-- The states agree in everything but the decimal flag (R42). -/
def SameButD (s t : State) : Prop := s.setP { s.p with d := false } = t.setP { t.p with d := false }

/-- The memories of the states agree in every bit of every byte, but for bit `bit` of the byte at `addr`. -/
def SameMemoryButBit (addr : Addr) (bit : Nat) (s t : State) : Prop :=
  ∀ (k : Addr) (j : Nat), (k = addr ∧ j = bit) ∨ (s.read k).getLsbD j = (t.read k).getLsbD j

end Sys2Proof.Machine
end

