-- ==== Sys2Proof/Certificates/Slice0/Obligations.lean ====
section
/-! DEFINITION. The statements about the model, from the numbered rules of spec/. In every statement about `exec` the
state is the one at the Execute phase: PC is `pc1`, one past the opcode (40_execution_loop.md R144). -/

open Sys2Proof Sys2Proof.Machine

/-- Every instruction, with every operand (R105, R106, R109). The opcode bytes rest on decision D11 (log 8). -/
def Obligations.DecodeOfEncodeIsTheInstruction : Prop :=
  ∀ (i : Instr) (rest : List Byte), decode (encode i ++ rest) = .ok (i, rest)

/-- Each word has one meaning (R100, R106). The opcode bytes rest on decision D11 (log 8). -/
def Obligations.BytesOfADecodedInstructionAreItsEncoding : Prop :=
  ∀ (bytes rest : List Byte) (i : Instr), decode bytes = .ok (i, rest) → bytes = encode i ++ rest

/-- The 105 bytes of R120, written out. Which bytes they are is decision D12 of the spec. -/
def Obligations.OpcodesTheDecoderRejectsAreThe105Unsupported : Prop :=
  ∀ (opcode : Byte) (rest : List Byte), 2 ≤ rest.length →
    ((∃ e, decode (opcode :: rest) = .error e) ↔
      opcode ∈ [0x02#8, 0x03#8, 0x04#8, 0x07#8, 0x0B#8, 0x0C#8, 0x0F#8, 0x12#8, 0x13#8, 0x14#8, 0x17#8, 0x1A#8, 0x1B#8, 0x1C#8,
        0x1F#8, 0x22#8, 0x23#8, 0x27#8, 0x2B#8, 0x2F#8, 0x32#8, 0x33#8, 0x34#8, 0x37#8, 0x3A#8, 0x3B#8, 0x3C#8, 0x3F#8,
        0x42#8, 0x43#8, 0x44#8, 0x47#8, 0x4B#8, 0x4F#8, 0x52#8, 0x53#8, 0x54#8, 0x57#8, 0x5A#8, 0x5B#8, 0x5C#8, 0x5F#8,
        0x62#8, 0x63#8, 0x64#8, 0x67#8, 0x6B#8, 0x6F#8, 0x72#8, 0x73#8, 0x74#8, 0x77#8, 0x7A#8, 0x7B#8, 0x7C#8, 0x7F#8,
        0x80#8, 0x82#8, 0x83#8, 0x87#8, 0x89#8, 0x8B#8, 0x8F#8, 0x92#8, 0x93#8, 0x97#8, 0x9B#8, 0x9C#8, 0x9E#8, 0x9F#8,
        0xA3#8, 0xA7#8, 0xAB#8, 0xAF#8, 0xB2#8, 0xB3#8, 0xB7#8, 0xBB#8, 0xBF#8, 0xC2#8, 0xC3#8, 0xC7#8, 0xCB#8, 0xCF#8,
        0xD2#8, 0xD3#8, 0xD4#8, 0xD7#8, 0xDA#8, 0xDB#8, 0xDC#8, 0xDF#8, 0xE2#8, 0xE3#8, 0xE7#8, 0xEB#8, 0xEF#8, 0xF2#8,
        0xF3#8, 0xF4#8, 0xF7#8, 0xFA#8, 0xFB#8, 0xFC#8, 0xFF#8]) ∧
    (∀ e, decode (opcode :: rest) = .error e → e = .unsupportedOpcode opcode)

/-- One word of each family (R109, R115, R124). -/
def Obligations.WordsOfTheSpecDecodeToTheirInstructions : Prop :=
  decode [0xA9#8, 0x05#8] = .ok (.ldaImm 0x05#8, []) ∧
  decode [0x85#8, 0x10#8] = .ok (.staZp 0x10#8, []) ∧
  decode [0xAA#8] = .ok (.tax, []) ∧
  decode [0x69#8, 0x05#8] = .ok (.adcImm 0x05#8, []) ∧
  decode [0xBD#8, 0x34#8, 0x12#8] = .ok (.ldaAbsX 0x1234#16, []) ∧
  decode [0x0A#8] = .ok (.aslAcc, []) ∧
  decode [0xE8#8] = .ok (.inx, []) ∧
  decode [0xC1#8, 0x20#8] = .ok (.cmpIndX 0x20#8, []) ∧
  decode [0xD0#8, 0xF9#8] = .ok (.bne 0xF9#8, []) ∧
  decode [0x6C#8, 0x00#8, 0x03#8] = .ok (.jmpInd 0x0300#16, []) ∧
  decode [0x20#8, 0x00#8, 0x90#8] = .ok (.jsr 0x9000#16, []) ∧
  decode [0x08#8] = .ok (.php, []) ∧
  decode [0xB8#8] = .ok (.clv, []) ∧
  decode [0x24#8, 0x10#8] = .ok (.bitZp 0x10#8, []) ∧
  decode [0x00#8] = .ok (.brk, [])

/-- R140, R141, R144. The operand bytes are read with the opcode (log 1). -/
def Obligations.StepRunsTheDecodedInstruction : Prop :=
  ∀ (s : State) (i : Instr) (rest : List Byte), s.mode = .running →
    decode [s.read s.pc, s.read (s.pc + 1#16), s.read (s.pc + 2#16)] = .ok (i, rest) →
    step s = exec i { s with pc := s.pc + 1#16 }

/-- R89 (fetch reads memory as it stands), R100, R140. -/
def Obligations.StepRunsTheInstructionWhoseBytesLieAtPc : Prop :=
  ∀ (s : State) (i : Instr), s.mode = .running →
    (∀ k b, (encode i)[k]? = some b → s.read (s.pc + BitVec.ofNat 16 k) = b) →
    step s = exec i { s with pc := s.pc + 1#16 }

/-- R105. For Immediate it says that the operand byte is the one at `ea = pc1` (R171; log 1). -/
def Obligations.FetchedOperandsAreTheBytesAfterTheOpcode : Prop :=
  ∀ (s : State) (i : Instr), s.fetchInstr = some i →
    (∀ v, i.operand = .immediate v →
      v = s.read (s.pc + 1#16) ∧ resolve i.operand s.fetched = some (s.pc + 1#16)) ∧
    (∀ v, i.operand = .zeroPage v ∨ i.operand = .zeroPageX v ∨ i.operand = .zeroPageY v ∨ i.operand = .indirectX v ∨
        i.operand = .indirectY v ∨ i.operand = .relative v → v = s.read (s.pc + 1#16)) ∧
    (∀ w, i.operand = .absolute w ∨ i.operand = .absoluteX w ∨ i.operand = .absoluteY w ∨ i.operand = .indirect w →
      w.toNat = 256 * (s.read (s.pc + 2#16)).toNat + (s.read (s.pc + 1#16)).toNat)

/-- R121, R341. That PC keeps the advance of the fetch is decision D16; the outcome carries the state (log 4). -/
def Obligations.AnUnsupportedOpcodeFaultsPrecisely : Prop :=
  ∀ s : State, s.mode = .running →
    s.read s.pc ∈ [0x02#8, 0x03#8, 0x04#8, 0x07#8, 0x0B#8, 0x0C#8, 0x0F#8, 0x12#8, 0x13#8, 0x14#8, 0x17#8, 0x1A#8, 0x1B#8, 0x1C#8,
       0x1F#8, 0x22#8, 0x23#8, 0x27#8, 0x2B#8, 0x2F#8, 0x32#8, 0x33#8, 0x34#8, 0x37#8, 0x3A#8, 0x3B#8, 0x3C#8, 0x3F#8,
       0x42#8, 0x43#8, 0x44#8, 0x47#8, 0x4B#8, 0x4F#8, 0x52#8, 0x53#8, 0x54#8, 0x57#8, 0x5A#8, 0x5B#8, 0x5C#8, 0x5F#8,
       0x62#8, 0x63#8, 0x64#8, 0x67#8, 0x6B#8, 0x6F#8, 0x72#8, 0x73#8, 0x74#8, 0x77#8, 0x7A#8, 0x7B#8, 0x7C#8, 0x7F#8,
       0x80#8, 0x82#8, 0x83#8, 0x87#8, 0x89#8, 0x8B#8, 0x8F#8, 0x92#8, 0x93#8, 0x97#8, 0x9B#8, 0x9C#8, 0x9E#8, 0x9F#8,
       0xA3#8, 0xA7#8, 0xAB#8, 0xAF#8, 0xB2#8, 0xB3#8, 0xB7#8, 0xBB#8, 0xBF#8, 0xC2#8, 0xC3#8, 0xC7#8, 0xCB#8, 0xCF#8,
       0xD2#8, 0xD3#8, 0xD4#8, 0xD7#8, 0xDA#8, 0xDB#8, 0xDC#8, 0xDF#8, 0xE2#8, 0xE3#8, 0xE7#8, 0xEB#8, 0xEF#8, 0xF2#8,
       0xF3#8, 0xF4#8, 0xF7#8, 0xFA#8, 0xFB#8, 0xFC#8, 0xFF#8] →
    step s = .fault (.unsupportedOpcode (s.read s.pc) s.pc
      { s with pc := s.pc + 1#16, mode := .faulted, fault := some (.unsupportedOpcode (s.read s.pc) s.pc) })

/-- R154 (decision D20). That the model says so by a refusal is its own choice (log 5). -/
def Obligations.NoStepIsEnabledUnlessRunning : Prop :=
  ∀ s : State, s.mode = .halted ∨ s.mode = .faulted → step s = .refused (.stepNotEnabled s.mode)

/-- R76, R78, R79; the wrap at 0xFFFF is decision D15. -/
def Obligations.WordWriteThenReadGivesTheWord : Prop :=
  ∀ (s : State) (addr v : Addr), Memory.wf s.mem = true →
    (s.writeWord addr v).readWord addr = v ∧
    ((s.writeWord addr v).read addr).toNat = v.toNat % 256 ∧
    ((s.writeWord addr v).read (addr + 1#16)).toNat = v.toNat / 256 ∧
    (∀ k, k ≠ addr → k ≠ addr + 1#16 → (s.writeWord addr v).read k = s.read k)

/-- The canonical form of the model (log 6) stands for the 65536 bytes of R51, one list for each content. -/
def Obligations.MemoriesThatReadAlikeAreEqual : Prop :=
  ∀ s t : State, Memory.wf s.mem = true → Memory.wf t.mem = true → (∀ k, s.read k = t.read k) → s.mem = t.mem

/-- R38, R49; bit 5 is hardwired by decision D4. -/
def Obligations.StatusByteHasItsFlagsAtTheirBits : Prop :=
  ∀ p : Flags, p.toByte.getLsbD 0 = p.c ∧ p.toByte.getLsbD 1 = p.z ∧ p.toByte.getLsbD 2 = p.i ∧
    p.toByte.getLsbD 3 = p.d ∧ p.toByte.getLsbD 4 = p.b ∧ p.toByte.getLsbD 5 = true ∧ p.toByte.getLsbD 6 = p.v ∧
    p.toByte.getLsbD 7 = p.n

/-- R49, the spec's decisions D6 and D7. -/
def Obligations.PushedStatusByteAndItsPull : Prop :=
  (∀ (p : Flags) (k : Nat), k < 8 → p.pushed.getLsbD k = (decide (k = 4 ∨ k = 5) || p.toByte.getLsbD k)) ∧
  (∀ v : Byte, (Flags.ofPulled v).toByte = (v &&& 0xEF#8) ||| 0x20#8) ∧
  (∀ p : Flags, Flags.ofPulled p.pushed = { p with b := false })

/-- R230. The last clause, the signed reading of V, is R230's own "[derived: from the formula]". -/
def Obligations.AdderAddsWithCarryAndSignedOverflow : Prop :=
  ∀ (x y : Byte) (cin : Bool),
    (addC x y cin).value.toNat = (x.toNat + y.toNat + cin.toNat) % 256 ∧
    ((addC x y cin).carry = true ↔ 256 ≤ x.toNat + y.toNat + cin.toNat) ∧
    ((addC x y cin).overflow = true ↔
      x.getLsbD 7 = y.getLsbD 7 ∧ (addC x y cin).value.getLsbD 7 ≠ x.getLsbD 7) ∧
    ((addC x y cin).overflow = true ↔
      (x.toInt + y.toInt + (cin.toNat : Int) < -128 ∨ 127 < x.toInt + y.toInt + (cin.toNat : Int)))

/-- R173, R174 (and the plain ZeroPage mode beside them). The mnemonics are those with an instruction in the mode, for
every operand byte. -/
def Obligations.ZeroPageModesStayInPageZero : Prop :=
  (∀ (zp : Byte) (s : State), ∃ ea, resolve (.zeroPage zp) s = some ea ∧ ea.toNat = zp.toNat) ∧
  (∀ (zp : Byte) (s : State), ∃ ea, resolve (.zeroPageX zp) s = some ea ∧ ea.toNat = (zp.toNat + s.x.toNat) % 256) ∧
  (∀ (zp : Byte) (s : State), ∃ ea, resolve (.zeroPageY zp) s = some ea ∧ ea.toNat = (zp.toNat + s.y.toNat) % 256) ∧
  (∀ (k : Kind) (zp : Byte), (∃ i : Instr, i.kind = k ∧ i.operand = .zeroPageX zp) ↔
    k ∈ [Kind.lda, Kind.ldy, Kind.sta, Kind.sty, Kind.adc, Kind.sbc, Kind.and, Kind.ora, Kind.eor, Kind.cmp, Kind.asl,
      Kind.lsr, Kind.rol, Kind.ror, Kind.inc, Kind.dec]) ∧
  (∀ (k : Kind) (zp : Byte), (∃ i : Instr, i.kind = k ∧ i.operand = .zeroPageY zp) ↔ k ∈ [Kind.ldx, Kind.stx]) ∧
  (∀ (i : Instr) (zp : Byte), i.operand = .zeroPageY zp →
    (i.kind = .ldx ∧ opcodeOf i = 0xB6#8) ∨ (i.kind = .stx ∧ opcodeOf i = 0x96#8))

/-- R176, R177 (and the plain Absolute mode beside them). The mnemonics are those with an instruction in the mode, for
every operand word. -/
def Obligations.AbsoluteIndexedModesWrapAt16Bits : Prop :=
  (∀ (w : Addr) (s : State), ∃ ea, resolve (.absolute w) s = some ea ∧ ea.toNat = w.toNat) ∧
  (∀ (w : Addr) (s : State), ∃ ea, resolve (.absoluteX w) s = some ea ∧ ea.toNat = (w.toNat + s.x.toNat) % 65536) ∧
  (∀ (w : Addr) (s : State), ∃ ea, resolve (.absoluteY w) s = some ea ∧ ea.toNat = (w.toNat + s.y.toNat) % 65536) ∧
  (∀ (k : Kind) (w : Addr), (∃ i : Instr, i.kind = k ∧ i.operand = .absoluteX w) ↔
    k ∈ [Kind.lda, Kind.ldy, Kind.sta, Kind.adc, Kind.sbc, Kind.and, Kind.ora, Kind.eor, Kind.cmp, Kind.asl, Kind.lsr,
      Kind.rol, Kind.ror, Kind.inc, Kind.dec]) ∧
  (∀ (k : Kind) (w : Addr), (∃ i : Instr, i.kind = k ∧ i.operand = .absoluteY w) ↔
    k ∈ [Kind.lda, Kind.ldx, Kind.sta, Kind.adc, Kind.sbc, Kind.and, Kind.ora, Kind.eor, Kind.cmp])

/-- R77, R178, R179, R181. The parameter is decision D13. -/
def Obligations.IndirectModesReadALittleEndianPointer : Prop :=
  ∀ (zp : Byte) (w : Addr) (s : State),
    (∃ ea, resolve (.indirectX zp) s = some ea ∧
      ea.toNat = (s.read (BitVec.ofNat 16 ((zp.toNat + s.x.toNat) % 256))).toNat + 256 *
        (s.read (BitVec.ofNat 16 (if s.cfg.zpPtrWrap then (zp.toNat + s.x.toNat + 1) % 256
          else (zp.toNat + s.x.toNat) % 256 + 1))).toNat) ∧
    (∃ ea, resolve (.indirectY zp) s = some ea ∧
      ea.toNat = ((s.read (BitVec.ofNat 16 zp.toNat)).toNat + 256 *
        (s.read (BitVec.ofNat 16 (if s.cfg.zpPtrWrap then (zp.toNat + 1) % 256 else zp.toNat + 1))).toNat +
          s.y.toNat) % 65536) ∧
    resolve (.indirect w) s = some w

/-- R180; conflict C1 is settled so by decision D1. -/
def Obligations.RelativeTargetIsNextInstructionPlusDisplacement : Prop :=
  ∀ (d : Byte) (s : State), ∃ ea, resolve (.relative d) s = some ea ∧
    (ea.toNat : Int) = ((s.pc.toNat : Int) + 1 + d.toInt) % 65536

/-- R182 to R185. That Immediate takes the fetched byte is log 1. -/
def Obligations.OperandAccessFollowsTheMode : Prop :=
  ∀ (o : Operand) (s : State) (v : Byte),
    (resolve o s = none ↔ o = .accumulator ∨ o = .implied) ∧
    readOperand .accumulator s = some s.a ∧ readOperand (.immediate v) s = some v ∧
    (∀ ea, resolve o s = some ea → (∀ m, o ≠ .immediate m) → readOperand o s = some (s.read ea)) ∧
    writeBack .accumulator v s = some { s with a := v } ∧
    (∀ ea, resolve o s = some ea → writeBack o v s = some (s.write ea v))

/-- R200 to R202. Frame: the next state is written out in full. The byte values are the spec's (log 8). -/
def Obligations.LoadsPutTheOperandInTheirRegister : Prop :=
  (∀ (i : Instr) (s : State), i.kind = .lda →
    (opcodeOf i, i.mode) ∈ [(0xA9#8, AddrMode.immediate), (0xA5#8, AddrMode.zeroPage), (0xB5#8, AddrMode.zeroPageX), (0xAD#8, AddrMode.absolute), (0xBD#8, AddrMode.absoluteX), (0xB9#8, AddrMode.absoluteY), (0xA1#8, AddrMode.indirectX), (0xB1#8, AddrMode.indirectY)] ∧
    ∃ m, readOperand i.operand s = some m ∧
      exec i s = .next { s with
        a := m, p := { s.p with z := m == 0x00#8, n := m.getLsbD 7 }, pc := s.pc + BitVec.ofNat 16 (i.length - 1) }) ∧
  (∀ (i : Instr) (s : State), i.kind = .ldx →
    (opcodeOf i, i.mode) ∈ [(0xA2#8, AddrMode.immediate), (0xA6#8, AddrMode.zeroPage), (0xB6#8, AddrMode.zeroPageY), (0xAE#8, AddrMode.absolute), (0xBE#8, AddrMode.absoluteY)] ∧
    ∃ m, readOperand i.operand s = some m ∧
      exec i s = .next { s with
        x := m, p := { s.p with z := m == 0x00#8, n := m.getLsbD 7 }, pc := s.pc + BitVec.ofNat 16 (i.length - 1) }) ∧
  (∀ (i : Instr) (s : State), i.kind = .ldy →
    (opcodeOf i, i.mode) ∈ [(0xA0#8, AddrMode.immediate), (0xA4#8, AddrMode.zeroPage), (0xB4#8, AddrMode.zeroPageX), (0xAC#8, AddrMode.absolute), (0xBC#8, AddrMode.absoluteX)] ∧
    ∃ m, readOperand i.operand s = some m ∧
      exec i s = .next { s with
        y := m, p := { s.p with z := m == 0x00#8, n := m.getLsbD 7 }, pc := s.pc + BitVec.ofNat 16 (i.length - 1) })

/-- R203 to R205. The canonical memory of the premise is the invariant of EveryStepKeepsTheInvariant. -/
def Obligations.StoresWriteTheRegisterAtTheirAddress : Prop :=
  (∀ (i : Instr) (s : State), i.kind = .sta → Memory.wf s.mem = true →
    (opcodeOf i, i.mode) ∈ [(0x85#8, AddrMode.zeroPage), (0x95#8, AddrMode.zeroPageX), (0x8D#8, AddrMode.absolute), (0x9D#8, AddrMode.absoluteX), (0x99#8, AddrMode.absoluteY), (0x81#8, AddrMode.indirectX), (0x91#8, AddrMode.indirectY)] ∧
    ∃ ea t, resolve i.operand s = some ea ∧ exec i s = .next t ∧ t.read ea = s.a ∧
      (∀ k, k ≠ ea → t.read k = s.read k) ∧
      t = { s with mem := t.mem, pc := s.pc + BitVec.ofNat 16 (i.length - 1) }) ∧
  (∀ (i : Instr) (s : State), i.kind = .stx → Memory.wf s.mem = true →
    (opcodeOf i, i.mode) ∈ [(0x86#8, AddrMode.zeroPage), (0x96#8, AddrMode.zeroPageY), (0x8E#8, AddrMode.absolute)] ∧
    ∃ ea t, resolve i.operand s = some ea ∧ exec i s = .next t ∧ t.read ea = s.x ∧
      (∀ k, k ≠ ea → t.read k = s.read k) ∧
      t = { s with mem := t.mem, pc := s.pc + BitVec.ofNat 16 (i.length - 1) }) ∧
  (∀ (i : Instr) (s : State), i.kind = .sty → Memory.wf s.mem = true →
    (opcodeOf i, i.mode) ∈ [(0x84#8, AddrMode.zeroPage), (0x94#8, AddrMode.zeroPageX), (0x8C#8, AddrMode.absolute)] ∧
    ∃ ea t, resolve i.operand s = some ea ∧ exec i s = .next t ∧ t.read ea = s.y ∧
      (∀ k, k ≠ ea → t.read k = s.read k) ∧
      t = { s with mem := t.mem, pc := s.pc + BitVec.ofNat 16 (i.length - 1) })

/-- R206 to R211. The next state is written out in full. -/
def Obligations.TransfersCopyARegister : Prop :=
  ∀ s : State,
    (opcodeOf .tax = 0xAA#8 ∧ exec .tax s = .next { s with x := s.a, p := { s.p with z := s.a == 0x00#8, n := s.a.getLsbD 7 } }) ∧
    (opcodeOf .txa = 0x8A#8 ∧ exec .txa s = .next { s with a := s.x, p := { s.p with z := s.x == 0x00#8, n := s.x.getLsbD 7 } }) ∧
    (opcodeOf .tay = 0xA8#8 ∧ exec .tay s = .next { s with y := s.a, p := { s.p with z := s.a == 0x00#8, n := s.a.getLsbD 7 } }) ∧
    (opcodeOf .tya = 0x98#8 ∧ exec .tya s = .next { s with a := s.y, p := { s.p with z := s.y == 0x00#8, n := s.y.getLsbD 7 } }) ∧
    (opcodeOf .tsx = 0xBA#8 ∧ exec .tsx s = .next { s with x := s.sp, p := { s.p with z := s.sp == 0x00#8, n := s.sp.getLsbD 7 } }) ∧
    (opcodeOf .txs = 0x9A#8 ∧ exec .txs s = .next { s with sp := s.x })

/-- R231. The decimal policy is decision D3, the signed reading of V is R230's derived remark. -/
def Obligations.AdcAddsOperandAndCarry : Prop :=
  ∀ (i : Instr) (s : State), i.kind = .adc →
    (opcodeOf i, i.mode) ∈ [(0x69#8, AddrMode.immediate), (0x65#8, AddrMode.zeroPage), (0x75#8, AddrMode.zeroPageX), (0x6D#8, AddrMode.absolute), (0x7D#8, AddrMode.absoluteX), (0x79#8, AddrMode.absoluteY), (0x61#8, AddrMode.indirectX), (0x71#8, AddrMode.indirectY)] ∧
    (s.p.d = true ∧ s.cfg.decimalPolicy = .refuse → exec i s = .refused .decimalMode) ∧
    (¬ (s.p.d = true ∧ s.cfg.decimalPolicy = .refuse) →
      ∃ m r c v, readOperand i.operand s = some m ∧
        exec i s = .next { s with
          a := r, p := { s.p with c := c, v := v, z := r == 0x00#8, n := r.getLsbD 7 }, pc := s.pc + BitVec.ofNat 16 (i.length - 1) } ∧
        r.toNat = (s.a.toNat + m.toNat + s.p.c.toNat) % 256 ∧
        (c = true ↔ 256 ≤ s.a.toNat + m.toNat + s.p.c.toNat) ∧
        (v = true ↔ (s.a.toInt + m.toInt + (s.p.c.toNat : Int) < -128 ∨
          127 < s.a.toInt + m.toInt + (s.p.c.toNat : Int))))

/-- R232. That the carry is not-borrow is decision D2; the decimal policy is D3. -/
def Obligations.SbcSubtractsOperandAndBorrow : Prop :=
  ∀ (i : Instr) (s : State), i.kind = .sbc →
    (opcodeOf i, i.mode) ∈ [(0xE9#8, AddrMode.immediate), (0xE5#8, AddrMode.zeroPage), (0xF5#8, AddrMode.zeroPageX), (0xED#8, AddrMode.absolute), (0xFD#8, AddrMode.absoluteX), (0xF9#8, AddrMode.absoluteY), (0xE1#8, AddrMode.indirectX), (0xF1#8, AddrMode.indirectY)] ∧
    (s.p.d = true ∧ s.cfg.decimalPolicy = .refuse → exec i s = .refused .decimalMode) ∧
    (¬ (s.p.d = true ∧ s.cfg.decimalPolicy = .refuse) →
      ∃ m r c v, readOperand i.operand s = some m ∧
        exec i s = .next { s with
          a := r, p := { s.p with c := c, v := v, z := r == 0x00#8, n := r.getLsbD 7 }, pc := s.pc + BitVec.ofNat 16 (i.length - 1) } ∧
        (r.toNat : Int) = ((s.a.toNat : Int) - m.toNat - (1 - s.p.c.toNat)) % 256 ∧
        (c = true ↔ 0 ≤ (s.a.toNat : Int) - m.toNat - (1 - s.p.c.toNat)) ∧
        (v = true ↔ (s.a.toInt - m.toInt - (1 - s.p.c.toNat) < -128 ∨
          127 < s.a.toInt - m.toInt - (1 - s.p.c.toNat))))

/-- R233 to R235. -/
def Obligations.LogicCombinesBitByBit : Prop :=
  (∀ (i : Instr) (s : State), i.kind = .and →
    (opcodeOf i, i.mode) ∈ [(0x29#8, AddrMode.immediate), (0x25#8, AddrMode.zeroPage), (0x35#8, AddrMode.zeroPageX), (0x2D#8, AddrMode.absolute), (0x3D#8, AddrMode.absoluteX), (0x39#8, AddrMode.absoluteY), (0x21#8, AddrMode.indirectX), (0x31#8, AddrMode.indirectY)] ∧
    ∃ m r, readOperand i.operand s = some m ∧ (∀ k, k < 8 → r.getLsbD k = (and (s.a.getLsbD k) (m.getLsbD k))) ∧
      exec i s = .next { s with
        a := r, p := { s.p with z := r == 0x00#8, n := r.getLsbD 7 }, pc := s.pc + BitVec.ofNat 16 (i.length - 1) }) ∧
  (∀ (i : Instr) (s : State), i.kind = .ora →
    (opcodeOf i, i.mode) ∈ [(0x09#8, AddrMode.immediate), (0x05#8, AddrMode.zeroPage), (0x15#8, AddrMode.zeroPageX), (0x0D#8, AddrMode.absolute), (0x1D#8, AddrMode.absoluteX), (0x19#8, AddrMode.absoluteY), (0x01#8, AddrMode.indirectX), (0x11#8, AddrMode.indirectY)] ∧
    ∃ m r, readOperand i.operand s = some m ∧ (∀ k, k < 8 → r.getLsbD k = (or (s.a.getLsbD k) (m.getLsbD k))) ∧
      exec i s = .next { s with
        a := r, p := { s.p with z := r == 0x00#8, n := r.getLsbD 7 }, pc := s.pc + BitVec.ofNat 16 (i.length - 1) }) ∧
  (∀ (i : Instr) (s : State), i.kind = .eor →
    (opcodeOf i, i.mode) ∈ [(0x49#8, AddrMode.immediate), (0x45#8, AddrMode.zeroPage), (0x55#8, AddrMode.zeroPageX), (0x4D#8, AddrMode.absolute), (0x5D#8, AddrMode.absoluteX), (0x59#8, AddrMode.absoluteY), (0x41#8, AddrMode.indirectX), (0x51#8, AddrMode.indirectY)] ∧
    ∃ m r, readOperand i.operand s = some m ∧ (∀ k, k < 8 → r.getLsbD k = (xor (s.a.getLsbD k) (m.getLsbD k))) ∧
      exec i s = .next { s with
        a := r, p := { s.p with z := r == 0x00#8, n := r.getLsbD 7 }, pc := s.pc + BitVec.ofNat 16 (i.length - 1) })

/-- R250 to R254, Accumulator mode. That shifts set N and Z is general knowledge by the spec's own mark (R250; log 17). -/
def Obligations.AccumulatorShiftsAndRotates : Prop :=
  ∀ s : State,
    (opcodeOf .aslAcc = 0x0A#8 ∧ exec .aslAcc s = .next { s with
      a := BitVec.ofNat 8 (2 * s.a.toNat),
      p := { s.p with c := decide (128 ≤ s.a.toNat), z := decide ((2 * s.a.toNat) % 256 = 0), n := decide (128 ≤ (2 * s.a.toNat) % 256) } }) ∧
    (opcodeOf .lsrAcc = 0x4A#8 ∧ exec .lsrAcc s = .next { s with
      a := BitVec.ofNat 8 (s.a.toNat / 2),
      p := { s.p with c := decide (s.a.toNat % 2 = 1), z := decide ((s.a.toNat / 2) % 256 = 0), n := decide (128 ≤ (s.a.toNat / 2) % 256) } }) ∧
    (opcodeOf .rolAcc = 0x2A#8 ∧ exec .rolAcc s = .next { s with
      a := BitVec.ofNat 8 (2 * s.a.toNat + s.p.c.toNat),
      p := { s.p with c := decide (128 ≤ s.a.toNat), z := decide ((2 * s.a.toNat + s.p.c.toNat) % 256 = 0), n := decide (128 ≤ (2 * s.a.toNat + s.p.c.toNat) % 256) } }) ∧
    (opcodeOf .rorAcc = 0x6A#8 ∧ exec .rorAcc s = .next { s with
      a := BitVec.ofNat 8 (s.a.toNat / 2 + 128 * s.p.c.toNat),
      p := { s.p with c := decide (s.a.toNat % 2 = 1), z := decide ((s.a.toNat / 2 + 128 * s.p.c.toNat) % 256 = 0), n := decide (128 ≤ (s.a.toNat / 2 + 128 * s.p.c.toNat) % 256) } })

/-- R250 to R254, memory modes. That shifts set N and Z is general knowledge by the spec's own mark (R250; log 17). -/
def Obligations.MemoryShiftsAndRotates : Prop :=
  (∀ (i : Instr) (s : State), i.kind = .asl → i.mode ≠ .accumulator → Memory.wf s.mem = true →
    (opcodeOf i, i.mode) ∈ [(0x06#8, AddrMode.zeroPage), (0x16#8, AddrMode.zeroPageX), (0x0E#8, AddrMode.absolute), (0x1E#8, AddrMode.absoluteX)] ∧
    ∃ ea v t, resolve i.operand s = some ea ∧ v = s.read ea ∧ exec i s = .next t ∧
      t.read ea = BitVec.ofNat 8 (2 * v.toNat) ∧ (∀ k, k ≠ ea → t.read k = s.read k) ∧
      t = { s with
        mem := t.mem, pc := s.pc + BitVec.ofNat 16 (i.length - 1),
        p := { s.p with c := decide (128 ≤ v.toNat), z := t.read ea == 0x00#8, n := (t.read ea).getLsbD 7 } }) ∧
  (∀ (i : Instr) (s : State), i.kind = .lsr → i.mode ≠ .accumulator → Memory.wf s.mem = true →
    (opcodeOf i, i.mode) ∈ [(0x46#8, AddrMode.zeroPage), (0x56#8, AddrMode.zeroPageX), (0x4E#8, AddrMode.absolute), (0x5E#8, AddrMode.absoluteX)] ∧
    ∃ ea v t, resolve i.operand s = some ea ∧ v = s.read ea ∧ exec i s = .next t ∧
      t.read ea = BitVec.ofNat 8 (v.toNat / 2) ∧ (∀ k, k ≠ ea → t.read k = s.read k) ∧
      t = { s with
        mem := t.mem, pc := s.pc + BitVec.ofNat 16 (i.length - 1),
        p := { s.p with c := decide (v.toNat % 2 = 1), z := t.read ea == 0x00#8, n := (t.read ea).getLsbD 7 } }) ∧
  (∀ (i : Instr) (s : State), i.kind = .rol → i.mode ≠ .accumulator → Memory.wf s.mem = true →
    (opcodeOf i, i.mode) ∈ [(0x26#8, AddrMode.zeroPage), (0x36#8, AddrMode.zeroPageX), (0x2E#8, AddrMode.absolute), (0x3E#8, AddrMode.absoluteX)] ∧
    ∃ ea v t, resolve i.operand s = some ea ∧ v = s.read ea ∧ exec i s = .next t ∧
      t.read ea = BitVec.ofNat 8 (2 * v.toNat + s.p.c.toNat) ∧ (∀ k, k ≠ ea → t.read k = s.read k) ∧
      t = { s with
        mem := t.mem, pc := s.pc + BitVec.ofNat 16 (i.length - 1),
        p := { s.p with c := decide (128 ≤ v.toNat), z := t.read ea == 0x00#8, n := (t.read ea).getLsbD 7 } }) ∧
  (∀ (i : Instr) (s : State), i.kind = .ror → i.mode ≠ .accumulator → Memory.wf s.mem = true →
    (opcodeOf i, i.mode) ∈ [(0x66#8, AddrMode.zeroPage), (0x76#8, AddrMode.zeroPageX), (0x6E#8, AddrMode.absolute), (0x7E#8, AddrMode.absoluteX)] ∧
    ∃ ea v t, resolve i.operand s = some ea ∧ v = s.read ea ∧ exec i s = .next t ∧
      t.read ea = BitVec.ofNat 8 (v.toNat / 2 + 128 * s.p.c.toNat) ∧ (∀ k, k ≠ ea → t.read k = s.read k) ∧
      t = { s with
        mem := t.mem, pc := s.pc + BitVec.ofNat 16 (i.length - 1),
        p := { s.p with c := decide (v.toNat % 2 = 1), z := t.read ea == 0x00#8, n := (t.read ea).getLsbD 7 } })

/-- R255, R256. -/
def Obligations.IncAndDecChangeTheAddressedByteByOne : Prop :=
  (∀ (i : Instr) (s : State), i.kind = .inc → Memory.wf s.mem = true →
    (opcodeOf i, i.mode) ∈ [(0xE6#8, AddrMode.zeroPage), (0xF6#8, AddrMode.zeroPageX), (0xEE#8, AddrMode.absolute), (0xFE#8, AddrMode.absoluteX)] ∧
    ∃ ea t, resolve i.operand s = some ea ∧ exec i s = .next t ∧
      (t.read ea).toNat = ((s.read ea).toNat + 1) % 256 ∧ (∀ k, k ≠ ea → t.read k = s.read k) ∧
      t = { s with
        mem := t.mem, pc := s.pc + BitVec.ofNat 16 (i.length - 1),
        p := { s.p with z := t.read ea == 0x00#8, n := (t.read ea).getLsbD 7 } }) ∧
  (∀ (i : Instr) (s : State), i.kind = .dec → Memory.wf s.mem = true →
    (opcodeOf i, i.mode) ∈ [(0xC6#8, AddrMode.zeroPage), (0xD6#8, AddrMode.zeroPageX), (0xCE#8, AddrMode.absolute), (0xDE#8, AddrMode.absoluteX)] ∧
    ∃ ea t, resolve i.operand s = some ea ∧ exec i s = .next t ∧
      (t.read ea).toNat = ((s.read ea).toNat + 255) % 256 ∧ (∀ k, k ≠ ea → t.read k = s.read k) ∧
      t = { s with
        mem := t.mem, pc := s.pc + BitVec.ofNat 16 (i.length - 1),
        p := { s.p with z := t.read ea == 0x00#8, n := (t.read ea).getLsbD 7 } })

/-- R257 to R260. -/
def Obligations.IndexRegistersChangeByOne : Prop :=
  ∀ s : State,
    (∃ r, r.toNat = (s.x.toNat + 1) % 256 ∧ opcodeOf .inx = 0xE8#8 ∧
      exec .inx s = .next { s with x := r, p := { s.p with z := r == 0x00#8, n := r.getLsbD 7 } }) ∧
    (∃ r, r.toNat = (s.y.toNat + 1) % 256 ∧ opcodeOf .iny = 0xC8#8 ∧
      exec .iny s = .next { s with y := r, p := { s.p with z := r == 0x00#8, n := r.getLsbD 7 } }) ∧
    (∃ r, r.toNat = (s.x.toNat + 255) % 256 ∧ opcodeOf .dex = 0xCA#8 ∧
      exec .dex s = .next { s with x := r, p := { s.p with z := r == 0x00#8, n := r.getLsbD 7 } }) ∧
    (∃ r, r.toNat = (s.y.toNat + 255) % 256 ∧ opcodeOf .dey = 0x88#8 ∧
      exec .dey s = .next { s with y := r, p := { s.p with z := r == 0x00#8, n := r.getLsbD 7 } })

/-- R262 to R264, with the helper of R261. -/
def Obligations.ComparesSetCarryZeroAndNegative : Prop :=
  (∀ (i : Instr) (s : State), i.kind = .cmp →
    (opcodeOf i, i.mode) ∈ [(0xC9#8, AddrMode.immediate), (0xC5#8, AddrMode.zeroPage), (0xD5#8, AddrMode.zeroPageX), (0xCD#8, AddrMode.absolute), (0xDD#8, AddrMode.absoluteX), (0xD9#8, AddrMode.absoluteY), (0xC1#8, AddrMode.indirectX), (0xD1#8, AddrMode.indirectY)] ∧
    ∃ m, readOperand i.operand s = some m ∧
      exec i s = .next { s with
        p := { s.p with
          c := decide (m.toNat ≤ s.a.toNat), z := decide (s.a = m),
          n := decide (128 ≤ (s.a.toNat + 256 - m.toNat) % 256) }, pc := s.pc + BitVec.ofNat 16 (i.length - 1) }) ∧
  (∀ (i : Instr) (s : State), i.kind = .cpx →
    (opcodeOf i, i.mode) ∈ [(0xE0#8, AddrMode.immediate), (0xE4#8, AddrMode.zeroPage), (0xEC#8, AddrMode.absolute)] ∧
    ∃ m, readOperand i.operand s = some m ∧
      exec i s = .next { s with
        p := { s.p with
          c := decide (m.toNat ≤ s.x.toNat), z := decide (s.x = m),
          n := decide (128 ≤ (s.x.toNat + 256 - m.toNat) % 256) }, pc := s.pc + BitVec.ofNat 16 (i.length - 1) }) ∧
  (∀ (i : Instr) (s : State), i.kind = .cpy →
    (opcodeOf i, i.mode) ∈ [(0xC0#8, AddrMode.immediate), (0xC4#8, AddrMode.zeroPage), (0xCC#8, AddrMode.absolute)] ∧
    ∃ m, readOperand i.operand s = some m ∧
      exec i s = .next { s with
        p := { s.p with
          c := decide (m.toNat ≤ s.y.toNat), z := decide (s.y = m),
          n := decide (128 ≤ (s.y.toNat + 256 - m.toNat) % 256) }, pc := s.pc + BitVec.ofNat 16 (i.length - 1) })

/-- R281 to R288 over R280. The address itself is RelativeTargetIsNextInstructionPlusDisplacement. -/
def Obligations.BranchesTestOneFlag : Prop :=
  ∀ (d : Byte) (s : State), ∃ target, resolve (.relative d) s = some target ∧
    (opcodeOf (.bcc d) = 0x90#8 ∧
      exec (.bcc d) s = .next { s with pc := if s.p.c = false then target else s.pc + 1#16 }) ∧
    (opcodeOf (.bcs d) = 0xB0#8 ∧
      exec (.bcs d) s = .next { s with pc := if s.p.c = true then target else s.pc + 1#16 }) ∧
    (opcodeOf (.beq d) = 0xF0#8 ∧
      exec (.beq d) s = .next { s with pc := if s.p.z = true then target else s.pc + 1#16 }) ∧
    (opcodeOf (.bne d) = 0xD0#8 ∧
      exec (.bne d) s = .next { s with pc := if s.p.z = false then target else s.pc + 1#16 }) ∧
    (opcodeOf (.bmi d) = 0x30#8 ∧
      exec (.bmi d) s = .next { s with pc := if s.p.n = true then target else s.pc + 1#16 }) ∧
    (opcodeOf (.bpl d) = 0x10#8 ∧
      exec (.bpl d) s = .next { s with pc := if s.p.n = false then target else s.pc + 1#16 }) ∧
    (opcodeOf (.bvc d) = 0x50#8 ∧
      exec (.bvc d) s = .next { s with pc := if s.p.v = false then target else s.pc + 1#16 }) ∧
    (opcodeOf (.bvs d) = 0x70#8 ∧
      exec (.bvs d) s = .next { s with pc := if s.p.v = true then target else s.pc + 1#16 })

/-- R289. The parameter is decision D14. -/
def Obligations.JmpGoesToItsTarget : Prop :=
  ∀ (w : Addr) (s : State),
    opcodeOf (.jmpAbs w) = 0x4C#8 ∧ exec (.jmpAbs w) s = .next { s with pc := w } ∧
    opcodeOf (.jmpInd w) = 0x6C#8 ∧
    ∃ target, exec (.jmpInd w) s = .next { s with pc := target } ∧
      target.toNat = (s.read w).toNat + 256 * (s.read (BitVec.ofNat 16
        (if s.cfg.jmpIndPageWrap then w.toNat / 256 * 256 + (w.toNat + 1) % 256 else w.toNat + 1))).toNat

/-- R290 (decision D9), over the push order of R80 and R82 (D8). -/
def Obligations.JsrPushesTheAddressOfItsLastByte : Prop :=
  ∀ (w : Addr) (s : State), Memory.wf s.mem = true →
    opcodeOf (.jsr w) = 0x20#8 ∧
    ∃ t, exec (.jsr w) s = .next t ∧
      t = { s with mem := t.mem, sp := s.sp - 2#8, pc := w } ∧
      (t.read (BitVec.ofNat 16 (256 + s.sp.toNat))).toNat = (s.pc.toNat + 1) % 65536 / 256 ∧
      (t.read (BitVec.ofNat 16 (256 + (s.sp.toNat + 255) % 256))).toNat = (s.pc.toNat + 1) % 256 ∧
      (∀ k, k ≠ BitVec.ofNat 16 (256 + s.sp.toNat) → k ≠ BitVec.ofNat 16 (256 + (s.sp.toNat + 255) % 256) →
        t.read k = s.read k)

/-- R291, R292 (RTI by decision D11), over the pull order of R81 and R82 (D8) and the pulled status of R49 (D7). -/
def Obligations.RtsAndRtiPullTheirFrame : Prop :=
  ∀ s : State,
    opcodeOf .rts = 0x60#8 ∧ opcodeOf .rti = 0x40#8 ∧
    (∃ ret, exec .rts s = .next { s with sp := s.sp + 2#8, pc := ret } ∧
      ret.toNat = ((s.read (BitVec.ofNat 16 (256 + (s.sp.toNat + 1) % 256))).toNat +
        256 * (s.read (BitVec.ofNat 16 (256 + (s.sp.toNat + 2) % 256))).toNat + 1) % 65536) ∧
    (∃ ret q, exec .rti s = .next { s with sp := s.sp + 3#8, pc := ret, p := q } ∧
      q.toByte = (s.read (BitVec.ofNat 16 (256 + (s.sp.toNat + 1) % 256)) &&& 0xEF#8) ||| 0x20#8 ∧
      ret.toNat = (s.read (BitVec.ofNat 16 (256 + (s.sp.toNat + 2) % 256))).toNat +
        256 * (s.read (BitVec.ofNat 16 (256 + (s.sp.toNat + 3) % 256))).toNat)

/-- R290, R291: "the only reading under which JSR/RTS work as a call and return" (C2, D9). -/
def Obligations.RtsAfterJsrReturnsBehindTheCall : Prop :=
  ∀ (w : Addr) (s : State), Memory.wf s.mem = true →
    ∃ t u, exec (.jsr w) s = .next t ∧ exec .rts t.fetched = .next u ∧
      u = { s with mem := t.mem, pc := s.pc + 2#16 }

/-- R310, R311, over the push order of R80 (D8) and the pushed status of R49 (D6). -/
def Obligations.PushesStoreOneByteBelow : Prop :=
  ∀ s : State, Memory.wf s.mem = true →
    opcodeOf .pha = 0x48#8 ∧ opcodeOf .php = 0x08#8 ∧
    (∃ t, exec .pha s = .next t ∧ t = { s with mem := t.mem, sp := s.sp - 1#8 } ∧
      t.read (BitVec.ofNat 16 (256 + s.sp.toNat)) = s.a ∧
      (∀ k, k ≠ BitVec.ofNat 16 (256 + s.sp.toNat) → t.read k = s.read k)) ∧
    (∃ t, exec .php s = .next t ∧ t = { s with mem := t.mem, sp := s.sp - 1#8 } ∧
      t.read (BitVec.ofNat 16 (256 + s.sp.toNat)) = s.p.toByte ||| 0x30#8 ∧
      (∀ k, k ≠ BitVec.ofNat 16 (256 + s.sp.toNat) → t.read k = s.read k))

/-- R312 (its flags "[derived: from rule R43]"), R313 (D7), over the pull order of R81 (D8). -/
def Obligations.PullsTakeTheByteAbove : Prop :=
  ∀ s : State,
    opcodeOf .pla = 0x68#8 ∧ opcodeOf .plp = 0x28#8 ∧
    (∃ m, m = s.read (BitVec.ofNat 16 (256 + (s.sp.toNat + 1) % 256)) ∧
      exec .pla s = .next { s with
        a := m, sp := s.sp + 1#8, p := { s.p with z := m == 0x00#8, n := m.getLsbD 7 } }) ∧
    (∃ m q, m = s.read (BitVec.ofNat 16 (256 + (s.sp.toNat + 1) % 256)) ∧
      exec .plp s = .next { s with p := q, sp := s.sp + 1#8 } ∧ q.toByte = (m &&& 0xEF#8) ||| 0x20#8)

/-- The stack round trip of R312, and R313's example. -/
def Obligations.PullAfterPushRestores : Prop :=
  ∀ (s : State) (other : Byte) (q : Flags), Memory.wf s.mem = true →
    (∃ t u, exec .pha s = .next t ∧ exec .pla { t with a := other } = .next u ∧ u.a = s.a ∧ u.sp = s.sp ∧
      u.p = { s.p with z := s.a == 0x00#8, n := s.a.getLsbD 7 }) ∧
    (∃ t u, exec .php s = .next t ∧ exec .plp { t with p := q } = .next u ∧ u.p = { s.p with b := false } ∧
      u.sp = s.sp ∧ u.a = s.a)

/-- R314 to R320. -/
def Obligations.FlagInstructionsWriteOneFlag : Prop :=
  ∀ s : State,
    (opcodeOf .clc = 0x18#8 ∧ exec .clc s = .next { s with p := { s.p with c := false } }) ∧
    (opcodeOf .sec = 0x38#8 ∧ exec .sec s = .next { s with p := { s.p with c := true } }) ∧
    (opcodeOf .cli = 0x58#8 ∧ exec .cli s = .next { s with p := { s.p with i := false } }) ∧
    (opcodeOf .sei = 0x78#8 ∧ exec .sei s = .next { s with p := { s.p with i := true } }) ∧
    (opcodeOf .cld = 0xD8#8 ∧ exec .cld s = .next { s with p := { s.p with d := false } }) ∧
    (opcodeOf .sed = 0xF8#8 ∧ exec .sed s = .next { s with p := { s.p with d := true } }) ∧
    (opcodeOf .clv = 0xB8#8 ∧ exec .clv s = .next { s with p := { s.p with v := false } })

/-- R321. -/
def Obligations.BitTestsTheOperand : Prop :=
  ∀ (i : Instr) (s : State), i.kind = .bit →
    (opcodeOf i, i.mode) ∈ [(0x24#8, AddrMode.zeroPage), (0x2C#8, AddrMode.absolute)] ∧
    ∃ ea m z, resolve i.operand s = some ea ∧ m = s.read ea ∧
      exec i s = .next { s with
        p := { s.p with z := z, n := m.getLsbD 7, v := m.getLsbD 6 }, pc := s.pc + BitVec.ofNat 16 (i.length - 1) } ∧
      (z = true ↔ ∀ k, k < 8 → ¬ (s.a.getLsbD k = true ∧ m.getLsbD k = true))

/-- R322, R347, R147 (decisions D8, D10). That Halt is a next state with mode Halted is the model's choice (log 3). -/
def Obligations.BrkPushesItsFrameAndHalts : Prop :=
  ∀ s : State, Memory.wf s.mem = true →
    opcodeOf .brk = 0x00#8 ∧
    ∃ t, exec .brk s = .next t ∧
      t = { s with
        mem := t.mem, sp := s.sp - 3#8, mode := .halted,
        p := { s.p with b := true, i := if s.cfg.brkSetsI then true else s.p.i } } ∧
      (t.read (BitVec.ofNat 16 (256 + s.sp.toNat))).toNat = (s.pc.toNat + 1) % 65536 / 256 ∧
      (t.read (BitVec.ofNat 16 (256 + (s.sp.toNat + 255) % 256))).toNat = (s.pc.toNat + 1) % 256 ∧
      t.read (BitVec.ofNat 16 (256 + (s.sp.toNat + 254) % 256)) = s.p.toByte ||| 0x30#8 ∧
      (∀ k, k ≠ BitVec.ofNat 16 (256 + s.sp.toNat) → k ≠ BitVec.ofNat 16 (256 + (s.sp.toNat + 255) % 256) →
        k ≠ BitVec.ofNat 16 (256 + (s.sp.toNat + 254) % 256) → t.read k = s.read k)

/-- R323 (NOP by decision D11). -/
def Obligations.NopChangesNothing : Prop :=
  ∀ s : State, opcodeOf .nop = 0xEA#8 ∧ exec .nop s = .next s

/-- R348 (decisions D10, D11, D20). -/
def Obligations.RtiReturnsThroughABrkFrame : Prop :=
  ∀ s : State, Memory.wf s.mem = true → s.mode = .running →
    ∃ t u, exec .brk s = .next t ∧ exec .rti t.resume.fetched = .next u ∧
      u = { s with mem := t.mem, pc := s.pc + 1#16, p := { s.p with b := false } }

/-- R344. It also says that the dead branch of R342 is not reached. -/
def Obligations.NoInstructionFaultsWhileItExecutes : Prop :=
  ∀ (i : Instr) (s : State) (f : Fault), exec i s ≠ .fault f

/-- R346, R236; the policy is decision D3. -/
def Obligations.OnlyDecimalArithmeticIsEverRefused : Prop :=
  ∀ (i : Instr) (s : State),
    ((i.kind = .adc ∨ i.kind = .sbc) ∧ s.p.d = true ∧ s.cfg.decimalPolicy = .refuse →
      exec i s = .refused .decimalMode) ∧
    (¬ ((i.kind = .adc ∨ i.kind = .sbc) ∧ s.p.d = true ∧ s.cfg.decimalPolicy = .refuse) →
      ∃ t, exec i s = .next t)

/-- R147, R140, R53. That Halt is a next state is log 3; that no step writes the parameters is log 2. -/
def Obligations.OnlyBrkHaltsTheLoop : Prop :=
  ∀ s t : State, step s = .next t →
    (s.read s.pc = 0x00#8 → t.mode = .halted) ∧ (s.read s.pc ≠ 0x00#8 → t.mode = .running) ∧
    t.fault = s.fault ∧ t.cfg = s.cfg

/-- R51, R53, R340. The canonical form is the model's (log 6), and so is that a fault carries the state it leaves (log 4).
The last clause is about raising either fault, the unreached one of R342 included (log 10). -/
def Obligations.EveryStepKeepsTheInvariant : Prop :=
  (∀ s t : State, s.Inv → step s = .next t → t.Inv) ∧
  (∀ (s : State) (f : Fault), s.Inv → step s = .fault f → f.after.Inv) ∧
  (∀ (s : State) (r : FaultReport), s.Inv → ∃ f, raise r s = .fault f ∧ f.after.Inv)

/-- R56, R57, R92. -/
def Obligations.TheResetStateMeetsTheInvariant : Prop :=
  State.reset.Inv ∧ ∀ cfg : Params, (State.create cfg).Inv

/-- R31, R32, R33 and R35, which derive these lists from the instruction rules. -/
def Obligations.OnlyTheirWritersChangeARegister : Prop :=
  ∀ (i : Instr) (s t : State), exec i s = .next t →
    (t.a = s.a ∨ i.kind ∈ [Kind.lda, Kind.adc, Kind.sbc, Kind.and, Kind.ora, Kind.eor, Kind.txa, Kind.tya, Kind.pla] ∨
      (i.mode = .accumulator ∧ i.kind ∈ [Kind.asl, Kind.lsr, Kind.rol, Kind.ror])) ∧
    (t.x = s.x ∨ i.kind ∈ [Kind.ldx, Kind.tax, Kind.tsx, Kind.inx, Kind.dex]) ∧
    (t.y = s.y ∨ i.kind ∈ [Kind.ldy, Kind.tay, Kind.iny, Kind.dey]) ∧
    (t.sp = s.sp ∨ i.kind ∈ [Kind.txs, Kind.pha, Kind.php, Kind.pla, Kind.plp, Kind.jsr, Kind.rts, Kind.rti, Kind.brk])

/-- R48, which is derived from the instruction rules. -/
def Obligations.OnlyTheirWritersChangeAFlag : Prop :=
  ∀ (i : Instr) (s t : State), exec i s = .next t →
    ((t.p.n = s.p.n ∧ t.p.z = s.p.z) ∨ i.kind ∈ [Kind.lda, Kind.ldx, Kind.ldy, Kind.tax, Kind.txa, Kind.tay, Kind.tya, Kind.tsx, Kind.pla, Kind.and, Kind.ora, Kind.eor, Kind.inc,
      Kind.dec, Kind.inx, Kind.iny, Kind.dex, Kind.dey, Kind.adc, Kind.sbc, Kind.asl, Kind.lsr, Kind.rol,
      Kind.ror, Kind.cmp, Kind.cpx, Kind.cpy, Kind.bit, Kind.plp, Kind.rti]) ∧
    (t.p.v = s.p.v ∨ i.kind ∈ [Kind.adc, Kind.sbc, Kind.bit, Kind.clv, Kind.plp, Kind.rti]) ∧
    (t.p.b = s.p.b ∨ i.kind ∈ [Kind.plp, Kind.rti, Kind.brk]) ∧
    (t.p.d = s.p.d ∨ i.kind ∈ [Kind.cld, Kind.sed, Kind.plp, Kind.rti]) ∧
    (t.p.i = s.p.i ∨ i.kind ∈ [Kind.cli, Kind.sei, Kind.plp, Kind.rti] ∨ (i.kind = .brk ∧ s.cfg.brkSetsI = true)) ∧
    (t.p.c = s.p.c ∨ i.kind ∈ [Kind.adc, Kind.sbc, Kind.asl, Kind.lsr, Kind.rol, Kind.ror, Kind.cmp, Kind.cpx, Kind.cpy,
      Kind.clc, Kind.sec, Kind.plp, Kind.rti])

/-- R84, which is derived from the instruction rules. -/
def Obligations.MemoryChangesOnlyInStoresAndPushes : Prop :=
  ∀ (i : Instr) (s t : State), exec i s = .next t →
    i.kind ∉ [Kind.sta, Kind.stx, Kind.sty, Kind.inc, Kind.dec, Kind.pha, Kind.php, Kind.jsr, Kind.brk] →
    (i.kind ∈ [Kind.asl, Kind.lsr, Kind.rol, Kind.ror] → i.mode = .accumulator) → t.mem = s.mem

/-- R37, R146, R152, which derive it from the instruction rules. -/
def Obligations.PlainInstructionsAdvanceByTheirLength : Prop :=
  ∀ (s t : State) (i : Instr), step s = .next t → s.fetchInstr = some i →
    i.kind ∉ [Kind.bcc, Kind.bcs, Kind.beq, Kind.bne, Kind.bmi, Kind.bpl, Kind.bvc, Kind.bvs, Kind.jmp, Kind.jsr, Kind.rts,
      Kind.rti] →
    t.pc.toNat = (s.pc.toNat + (encode i).length) % 65536

/-- R41, R345 (decision D18): I is read by PHP and BRK as part of the pushed byte, and by nothing else. The exceptions are
the last two clauses: there the next states differ in I and in bit 2 of the pushed byte. -/
def Obligations.TheInterruptDisableFlagChangesNoInstruction : Prop :=
  (∀ (i : Instr) (s t s' : State), SameButI s t → i.kind ≠ .php → i.kind ≠ .brk → exec i s = .next s' →
    ∃ t', exec i t = .next t' ∧ SameButI s' t') ∧
  (∀ (s t s' : State) (addr : Addr), SameButI s t → Memory.wf s.mem = true →
    addr.toNat = 256 + s.sp.toNat → exec .php s = .next s' →
    ∃ t', exec .php t = .next t' ∧ SameButI { s' with mem := t'.mem } t' ∧ SameMemoryButBit addr 2 s' t' ∧
      (s'.read addr).getLsbD 2 = s.p.i ∧ (t'.read addr).getLsbD 2 = t.p.i) ∧
  (∀ (s t s' : State) (addr : Addr), SameButI s t → Memory.wf s.mem = true →
    addr.toNat = 256 + (s.sp.toNat + 254) % 256 → exec .brk s = .next s' →
    ∃ t', exec .brk t = .next t' ∧ SameButI { s' with mem := t'.mem } t' ∧ SameMemoryButBit addr 2 s' t' ∧
      (s'.read addr).getLsbD 2 = s.p.i ∧ (t'.read addr).getLsbD 2 = t.p.i)

/-- R42, R236 (decision D3). PHP and BRK push D: there the next states differ in D and in bit 3 of the pushed byte. -/
def Obligations.TheDecimalFlagChangesNoBinaryInstruction : Prop :=
  (∀ (i : Instr) (s t s' : State), s.cfg.decimalPolicy = .binary → SameButD s t → i.kind ≠ .php → i.kind ≠ .brk →
    exec i s = .next s' → ∃ t', exec i t = .next t' ∧ SameButD s' t') ∧
  (∀ (s t s' : State) (addr : Addr), SameButD s t → Memory.wf s.mem = true →
    addr.toNat = 256 + s.sp.toNat → exec .php s = .next s' →
    ∃ t', exec .php t = .next t' ∧ SameButD { s' with mem := t'.mem } t' ∧ SameMemoryButBit addr 3 s' t' ∧
      (s'.read addr).getLsbD 3 = s.p.d ∧ (t'.read addr).getLsbD 3 = t.p.d) ∧
  (∀ (s t s' : State) (addr : Addr), SameButD s t → Memory.wf s.mem = true →
    addr.toNat = 256 + (s.sp.toNat + 254) % 256 → exec .brk s = .next s' →
    ∃ t', exec .brk t = .next t' ∧ SameButD { s' with mem := t'.mem } t' ∧ SameMemoryButBit addr 3 s' t' ∧
      (s'.read addr).getLsbD 3 = s.p.d ∧ (t'.read addr).getLsbD 3 = t.p.d)

/-- R371, R57, R372 (decisions D20, D25). -/
def Obligations.HostResetGivesTheResetValues : Prop :=
  (∀ s : State, s.mode ≠ .faulted → ∃ t, hostReset s = .next t ∧
      t.a = 0x00#8 ∧ t.x = 0x00#8 ∧ t.y = 0x00#8 ∧ t.p.toByte = 0x20#8 ∧ t.sp = 0xFF#8 ∧
      t.pc.toNat = (s.read 0xFFFC#16).toNat + 256 * (s.read 0xFFFD#16).toNat ∧ t.mode = .running ∧ t.mem = s.mem ∧
      t.fault = s.fault ∧ t.cfg = s.cfg ∧ hostReset t = .next t) ∧
  hostReset (State.create Params.defaults) = .next State.reset

/-- R340, R371, R377 to R380, R383, R384 (decisions D17, D20). What is left out is reading, which is no operation of the
model: the fields of the state are read as they stand (R381). -/
def Obligations.AFaultedStateRefusesEveryHostOperation : Prop :=
  (∀ (s : State) (bytes : List Byte) (fuel : Nat) (w : HostWrite), s.mode = .faulted →
      hostReset s = .refused .hostOnFaulted ∧ hostLoad bytes s = .refused .hostOnFaulted ∧
      hostRun fuel s = some (.refused .hostOnFaulted) ∧ hostStep s = .refused .hostOnFaulted ∧
      hostLoadAndRun fuel bytes s = some (.refused .hostOnFaulted) ∧ hostWrite w s = .refused .hostOnFaulted) ∧
  (∀ (s : State) (bytes : List Byte) (fuel : Nat), s.mode ≠ .faulted → 0x8000 < bytes.length →
      hostLoad bytes s = .refused (.programTooLarge bytes.length) ∧
      hostLoadAndRun fuel bytes s = some (.refused (.programTooLarge bytes.length)))

/-- R377, R376 (decision D17). -/
def Obligations.LoadPlacesTheImageAndTheVector : Prop :=
  ∀ (s : State) (bytes : List Byte), s.mode ≠ .faulted → Memory.wf s.mem = true → bytes.length ≤ 0x8000 →
    ∃ t, hostLoad bytes s = .next t ∧ t = { s with mem := t.mem } ∧ Memory.wf t.mem = true ∧
      t.read 0xFFFC#16 = 0x00#8 ∧ t.read 0xFFFD#16 = 0x80#8 ∧
      (∀ k b, bytes[k]? = some b → k ≠ 0x7FFC → k ≠ 0x7FFD → t.read (BitVec.ofNat 16 (0x8000 + k)) = b) ∧
      (∀ k : Addr, k ≠ 0xFFFC#16 → k ≠ 0xFFFD#16 → k.toNat < 0x8000 ∨ 0x8000 + bytes.length ≤ k.toNat →
        t.read k = s.read k)

/-- R373: "After it: PC = 0x8000, the first byte of the image". -/
def Obligations.LoadThenResetStartsAtTheImage : Prop :=
  ∀ (s : State) (bytes : List Byte), s.mode ≠ .faulted → Memory.wf s.mem = true → bytes.length ≤ 0x8000 →
    ∃ t u, hostLoad bytes s = .next t ∧ hostReset t = .next u ∧ u.pc = 0x8000#16 ∧ u.sp = 0xFF#8 ∧ u.a = 0x00#8 ∧
      u.x = 0x00#8 ∧ u.y = 0x00#8 ∧ u.p.toByte = 0x20#8 ∧ u.mode = .running ∧ u.mem = t.mem ∧
      ∀ fuel, hostLoadAndRun fuel bytes s = hostRun fuel u

/-- R150, R155. The bound is the model's own (log 14). -/
def Obligations.ARunHasOneEnd : Prop :=
  (∀ (s : State) (o : Host.Outcome State Fault Refusal) (m n : Nat), hostRun m s = some o → m ≤ n →
      hostRun n s = some o) ∧
  (∀ (s : State) (o o' : Host.Outcome State Fault Refusal), RunEnds s o → RunEnds s o' → o = o') ∧
  (∀ s t : State, RunSucceeds s t → t.mode = .halted)

/-- R155: "A program that never executes BRK and never faults (for example JMP to itself) runs for ever". -/
def Obligations.AJumpToItselfHangs : Prop :=
  ∀ s : State, s.mode ≠ .faulted → s.read s.pc = 0x4C#8 →
    s.read (s.pc + 1#16) = BitVec.ofNat 8 s.pc.toNat → s.read (s.pc + 2#16) = BitVec.ofNat 8 (s.pc.toNat / 256) →
    RunHangs s
end

