-- ==== Sys2Proof/Laws/Flags.lean ====
section
/-! SUPPORT. The flags each flag computation writes and those it leaves, one lemma a flag (10_state.md R48). -/

namespace Sys2Proof.Machine

@[simp] theorem Flags.afterSum_c (p : Flags) (r : Sum) : (p.afterSum r).c = r.carry := rfl
@[simp] theorem Flags.afterSum_z (p : Flags) (r : Sum) : (p.afterSum r).z = (r.value == 0x00#8) := rfl
@[simp] theorem Flags.afterSum_i (p : Flags) (r : Sum) : (p.afterSum r).i = p.i := rfl
@[simp] theorem Flags.afterSum_d (p : Flags) (r : Sum) : (p.afterSum r).d = p.d := rfl
@[simp] theorem Flags.afterSum_b (p : Flags) (r : Sum) : (p.afterSum r).b = p.b := rfl
@[simp] theorem Flags.afterSum_v (p : Flags) (r : Sum) : (p.afterSum r).v = r.overflow := rfl
@[simp] theorem Flags.afterSum_n (p : Flags) (r : Sum) : (p.afterSum r).n = r.value.getLsbD 7 := rfl

@[simp] theorem Flags.compare_c (p : Flags) (reg m : Byte) : (p.compare reg m).c = decide (m.toNat ≤ reg.toNat) := rfl
@[simp] theorem Flags.compare_z (p : Flags) (reg m : Byte) : (p.compare reg m).z = (reg == m) := rfl
@[simp] theorem Flags.compare_i (p : Flags) (reg m : Byte) : (p.compare reg m).i = p.i := rfl
@[simp] theorem Flags.compare_d (p : Flags) (reg m : Byte) : (p.compare reg m).d = p.d := rfl
@[simp] theorem Flags.compare_b (p : Flags) (reg m : Byte) : (p.compare reg m).b = p.b := rfl
@[simp] theorem Flags.compare_v (p : Flags) (reg m : Byte) : (p.compare reg m).v = p.v := rfl
@[simp] theorem Flags.compare_n (p : Flags) (reg m : Byte) : (p.compare reg m).n = (reg - m).getLsbD 7 := rfl

@[simp] theorem Flags.afterShift_c (p : Flags) (r : Shifted) : (p.afterShift r).c = r.out := rfl
@[simp] theorem Flags.afterShift_z (p : Flags) (r : Shifted) : (p.afterShift r).z = (r.value == 0x00#8) := rfl
@[simp] theorem Flags.afterShift_i (p : Flags) (r : Shifted) : (p.afterShift r).i = p.i := rfl
@[simp] theorem Flags.afterShift_d (p : Flags) (r : Shifted) : (p.afterShift r).d = p.d := rfl
@[simp] theorem Flags.afterShift_b (p : Flags) (r : Shifted) : (p.afterShift r).b = p.b := rfl
@[simp] theorem Flags.afterShift_v (p : Flags) (r : Shifted) : (p.afterShift r).v = p.v := rfl
@[simp] theorem Flags.afterShift_n (p : Flags) (r : Shifted) : (p.afterShift r).n = r.value.getLsbD 7 := rfl

@[simp] theorem Flags.bitTest_c (p : Flags) (a m : Byte) : (p.bitTest a m).c = p.c := rfl
@[simp] theorem Flags.bitTest_z (p : Flags) (a m : Byte) : (p.bitTest a m).z = (a &&& m == 0x00#8) := rfl
@[simp] theorem Flags.bitTest_i (p : Flags) (a m : Byte) : (p.bitTest a m).i = p.i := rfl
@[simp] theorem Flags.bitTest_d (p : Flags) (a m : Byte) : (p.bitTest a m).d = p.d := rfl
@[simp] theorem Flags.bitTest_b (p : Flags) (a m : Byte) : (p.bitTest a m).b = p.b := rfl
@[simp] theorem Flags.bitTest_v (p : Flags) (a m : Byte) : (p.bitTest a m).v = m.getLsbD 6 := rfl
@[simp] theorem Flags.bitTest_n (p : Flags) (a m : Byte) : (p.bitTest a m).n = m.getLsbD 7 := rfl

@[simp] theorem Flags.ofPulled_c (w : Byte) : (Flags.ofPulled w).c = w.getLsbD 0 := rfl
@[simp] theorem Flags.ofPulled_z (w : Byte) : (Flags.ofPulled w).z = w.getLsbD 1 := rfl
@[simp] theorem Flags.ofPulled_i (w : Byte) : (Flags.ofPulled w).i = w.getLsbD 2 := rfl
@[simp] theorem Flags.ofPulled_d (w : Byte) : (Flags.ofPulled w).d = w.getLsbD 3 := rfl
@[simp] theorem Flags.ofPulled_b (w : Byte) : (Flags.ofPulled w).b = false := rfl
@[simp] theorem Flags.ofPulled_v (w : Byte) : (Flags.ofPulled w).v = w.getLsbD 6 := rfl
@[simp] theorem Flags.ofPulled_n (w : Byte) : (Flags.ofPulled w).n = w.getLsbD 7 := rfl

end Sys2Proof.Machine
end

