-- ==== Sys2Proof/Laws/State.lean ====
section
/-! SUPPORT. One lemma per field per update of a state, so that no later proof unfolds a record update. -/

namespace Sys2Proof.Machine

@[simp] theorem State.setA_a (s : State) (v : Byte) : (s.setA v).a = v := rfl
@[simp] theorem State.setA_x (s : State) (v : Byte) : (s.setA v).x = s.x := rfl
@[simp] theorem State.setA_y (s : State) (v : Byte) : (s.setA v).y = s.y := rfl
@[simp] theorem State.setA_p (s : State) (v : Byte) : (s.setA v).p = s.p := rfl
@[simp] theorem State.setA_sp (s : State) (v : Byte) : (s.setA v).sp = s.sp := rfl
@[simp] theorem State.setA_pc (s : State) (v : Byte) : (s.setA v).pc = s.pc := rfl
@[simp] theorem State.setA_mem (s : State) (v : Byte) : (s.setA v).mem = s.mem := rfl
@[simp] theorem State.setA_mode (s : State) (v : Byte) : (s.setA v).mode = s.mode := rfl
@[simp] theorem State.setA_fault (s : State) (v : Byte) : (s.setA v).fault = s.fault := rfl
@[simp] theorem State.setA_cfg (s : State) (v : Byte) : (s.setA v).cfg = s.cfg := rfl

@[simp] theorem State.setX_a (s : State) (v : Byte) : (s.setX v).a = s.a := rfl
@[simp] theorem State.setX_x (s : State) (v : Byte) : (s.setX v).x = v := rfl
@[simp] theorem State.setX_y (s : State) (v : Byte) : (s.setX v).y = s.y := rfl
@[simp] theorem State.setX_p (s : State) (v : Byte) : (s.setX v).p = s.p := rfl
@[simp] theorem State.setX_sp (s : State) (v : Byte) : (s.setX v).sp = s.sp := rfl
@[simp] theorem State.setX_pc (s : State) (v : Byte) : (s.setX v).pc = s.pc := rfl
@[simp] theorem State.setX_mem (s : State) (v : Byte) : (s.setX v).mem = s.mem := rfl
@[simp] theorem State.setX_mode (s : State) (v : Byte) : (s.setX v).mode = s.mode := rfl
@[simp] theorem State.setX_fault (s : State) (v : Byte) : (s.setX v).fault = s.fault := rfl
@[simp] theorem State.setX_cfg (s : State) (v : Byte) : (s.setX v).cfg = s.cfg := rfl

@[simp] theorem State.setY_a (s : State) (v : Byte) : (s.setY v).a = s.a := rfl
@[simp] theorem State.setY_x (s : State) (v : Byte) : (s.setY v).x = s.x := rfl
@[simp] theorem State.setY_y (s : State) (v : Byte) : (s.setY v).y = v := rfl
@[simp] theorem State.setY_p (s : State) (v : Byte) : (s.setY v).p = s.p := rfl
@[simp] theorem State.setY_sp (s : State) (v : Byte) : (s.setY v).sp = s.sp := rfl
@[simp] theorem State.setY_pc (s : State) (v : Byte) : (s.setY v).pc = s.pc := rfl
@[simp] theorem State.setY_mem (s : State) (v : Byte) : (s.setY v).mem = s.mem := rfl
@[simp] theorem State.setY_mode (s : State) (v : Byte) : (s.setY v).mode = s.mode := rfl
@[simp] theorem State.setY_fault (s : State) (v : Byte) : (s.setY v).fault = s.fault := rfl
@[simp] theorem State.setY_cfg (s : State) (v : Byte) : (s.setY v).cfg = s.cfg := rfl

@[simp] theorem State.setP_a (s : State) (v : Flags) : (s.setP v).a = s.a := rfl
@[simp] theorem State.setP_x (s : State) (v : Flags) : (s.setP v).x = s.x := rfl
@[simp] theorem State.setP_y (s : State) (v : Flags) : (s.setP v).y = s.y := rfl
@[simp] theorem State.setP_p (s : State) (v : Flags) : (s.setP v).p = v := rfl
@[simp] theorem State.setP_sp (s : State) (v : Flags) : (s.setP v).sp = s.sp := rfl
@[simp] theorem State.setP_pc (s : State) (v : Flags) : (s.setP v).pc = s.pc := rfl
@[simp] theorem State.setP_mem (s : State) (v : Flags) : (s.setP v).mem = s.mem := rfl
@[simp] theorem State.setP_mode (s : State) (v : Flags) : (s.setP v).mode = s.mode := rfl
@[simp] theorem State.setP_fault (s : State) (v : Flags) : (s.setP v).fault = s.fault := rfl
@[simp] theorem State.setP_cfg (s : State) (v : Flags) : (s.setP v).cfg = s.cfg := rfl

@[simp] theorem State.setSP_a (s : State) (v : Byte) : (s.setSP v).a = s.a := rfl
@[simp] theorem State.setSP_x (s : State) (v : Byte) : (s.setSP v).x = s.x := rfl
@[simp] theorem State.setSP_y (s : State) (v : Byte) : (s.setSP v).y = s.y := rfl
@[simp] theorem State.setSP_p (s : State) (v : Byte) : (s.setSP v).p = s.p := rfl
@[simp] theorem State.setSP_sp (s : State) (v : Byte) : (s.setSP v).sp = v := rfl
@[simp] theorem State.setSP_pc (s : State) (v : Byte) : (s.setSP v).pc = s.pc := rfl
@[simp] theorem State.setSP_mem (s : State) (v : Byte) : (s.setSP v).mem = s.mem := rfl
@[simp] theorem State.setSP_mode (s : State) (v : Byte) : (s.setSP v).mode = s.mode := rfl
@[simp] theorem State.setSP_fault (s : State) (v : Byte) : (s.setSP v).fault = s.fault := rfl
@[simp] theorem State.setSP_cfg (s : State) (v : Byte) : (s.setSP v).cfg = s.cfg := rfl

@[simp] theorem State.setPC_a (s : State) (v : Addr) : (s.setPC v).a = s.a := rfl
@[simp] theorem State.setPC_x (s : State) (v : Addr) : (s.setPC v).x = s.x := rfl
@[simp] theorem State.setPC_y (s : State) (v : Addr) : (s.setPC v).y = s.y := rfl
@[simp] theorem State.setPC_p (s : State) (v : Addr) : (s.setPC v).p = s.p := rfl
@[simp] theorem State.setPC_sp (s : State) (v : Addr) : (s.setPC v).sp = s.sp := rfl
@[simp] theorem State.setPC_pc (s : State) (v : Addr) : (s.setPC v).pc = v := rfl
@[simp] theorem State.setPC_mem (s : State) (v : Addr) : (s.setPC v).mem = s.mem := rfl
@[simp] theorem State.setPC_mode (s : State) (v : Addr) : (s.setPC v).mode = s.mode := rfl
@[simp] theorem State.setPC_fault (s : State) (v : Addr) : (s.setPC v).fault = s.fault := rfl
@[simp] theorem State.setPC_cfg (s : State) (v : Addr) : (s.setPC v).cfg = s.cfg := rfl

@[simp] theorem State.setMode_a (s : State) (v : RunMode) : (s.setMode v).a = s.a := rfl
@[simp] theorem State.setMode_x (s : State) (v : RunMode) : (s.setMode v).x = s.x := rfl
@[simp] theorem State.setMode_y (s : State) (v : RunMode) : (s.setMode v).y = s.y := rfl
@[simp] theorem State.setMode_p (s : State) (v : RunMode) : (s.setMode v).p = s.p := rfl
@[simp] theorem State.setMode_sp (s : State) (v : RunMode) : (s.setMode v).sp = s.sp := rfl
@[simp] theorem State.setMode_pc (s : State) (v : RunMode) : (s.setMode v).pc = s.pc := rfl
@[simp] theorem State.setMode_mem (s : State) (v : RunMode) : (s.setMode v).mem = s.mem := rfl
@[simp] theorem State.setMode_mode (s : State) (v : RunMode) : (s.setMode v).mode = v := rfl
@[simp] theorem State.setMode_fault (s : State) (v : RunMode) : (s.setMode v).fault = s.fault := rfl
@[simp] theorem State.setMode_cfg (s : State) (v : RunMode) : (s.setMode v).cfg = s.cfg := rfl

@[simp] theorem State.setFault_a (s : State) (v : Option FaultReport) : (s.setFault v).a = s.a := rfl
@[simp] theorem State.setFault_x (s : State) (v : Option FaultReport) : (s.setFault v).x = s.x := rfl
@[simp] theorem State.setFault_y (s : State) (v : Option FaultReport) : (s.setFault v).y = s.y := rfl
@[simp] theorem State.setFault_p (s : State) (v : Option FaultReport) : (s.setFault v).p = s.p := rfl
@[simp] theorem State.setFault_sp (s : State) (v : Option FaultReport) : (s.setFault v).sp = s.sp := rfl
@[simp] theorem State.setFault_pc (s : State) (v : Option FaultReport) : (s.setFault v).pc = s.pc := rfl
@[simp] theorem State.setFault_mem (s : State) (v : Option FaultReport) : (s.setFault v).mem = s.mem := rfl
@[simp] theorem State.setFault_mode (s : State) (v : Option FaultReport) : (s.setFault v).mode = s.mode := rfl
@[simp] theorem State.setFault_fault (s : State) (v : Option FaultReport) : (s.setFault v).fault = v := rfl
@[simp] theorem State.setFault_cfg (s : State) (v : Option FaultReport) : (s.setFault v).cfg = s.cfg := rfl

@[simp] theorem State.write_a (s : State) (k : Addr) (v : Byte) : (s.write k v).a = s.a := rfl
@[simp] theorem State.write_x (s : State) (k : Addr) (v : Byte) : (s.write k v).x = s.x := rfl
@[simp] theorem State.write_y (s : State) (k : Addr) (v : Byte) : (s.write k v).y = s.y := rfl
@[simp] theorem State.write_p (s : State) (k : Addr) (v : Byte) : (s.write k v).p = s.p := rfl
@[simp] theorem State.write_sp (s : State) (k : Addr) (v : Byte) : (s.write k v).sp = s.sp := rfl
@[simp] theorem State.write_pc (s : State) (k : Addr) (v : Byte) : (s.write k v).pc = s.pc := rfl
@[simp] theorem State.write_mode (s : State) (k : Addr) (v : Byte) : (s.write k v).mode = s.mode := rfl
@[simp] theorem State.write_fault (s : State) (k : Addr) (v : Byte) : (s.write k v).fault = s.fault := rfl
@[simp] theorem State.write_cfg (s : State) (k : Addr) (v : Byte) : (s.write k v).cfg = s.cfg := rfl
@[simp] theorem State.write_mem (s : State) (k : Addr) (v : Byte) : (s.write k v).mem = Memory.store s.mem k.toNat v := rfl

@[simp] theorem State.setNZ_a (s : State) (v : Byte) : (s.setNZ v).a = s.a := rfl
@[simp] theorem State.setNZ_x (s : State) (v : Byte) : (s.setNZ v).x = s.x := rfl
@[simp] theorem State.setNZ_y (s : State) (v : Byte) : (s.setNZ v).y = s.y := rfl
@[simp] theorem State.setNZ_p (s : State) (v : Byte) : (s.setNZ v).p = s.p.setNZ v := rfl
@[simp] theorem State.setNZ_sp (s : State) (v : Byte) : (s.setNZ v).sp = s.sp := rfl
@[simp] theorem State.setNZ_pc (s : State) (v : Byte) : (s.setNZ v).pc = s.pc := rfl
@[simp] theorem State.setNZ_mem (s : State) (v : Byte) : (s.setNZ v).mem = s.mem := rfl
@[simp] theorem State.setNZ_mode (s : State) (v : Byte) : (s.setNZ v).mode = s.mode := rfl
@[simp] theorem State.setNZ_fault (s : State) (v : Byte) : (s.setNZ v).fault = s.fault := rfl
@[simp] theorem State.setNZ_cfg (s : State) (v : Byte) : (s.setNZ v).cfg = s.cfg := rfl

@[simp] theorem State.advance_a (s : State) (len : Nat) : (s.advance len).a = s.a := rfl
@[simp] theorem State.advance_x (s : State) (len : Nat) : (s.advance len).x = s.x := rfl
@[simp] theorem State.advance_y (s : State) (len : Nat) : (s.advance len).y = s.y := rfl
@[simp] theorem State.advance_p (s : State) (len : Nat) : (s.advance len).p = s.p := rfl
@[simp] theorem State.advance_sp (s : State) (len : Nat) : (s.advance len).sp = s.sp := rfl
@[simp] theorem State.advance_pc (s : State) (len : Nat) : (s.advance len).pc = s.pc + BitVec.ofNat 16 (len - 1) := rfl
@[simp] theorem State.advance_mem (s : State) (len : Nat) : (s.advance len).mem = s.mem := rfl
@[simp] theorem State.advance_mode (s : State) (len : Nat) : (s.advance len).mode = s.mode := rfl
@[simp] theorem State.advance_fault (s : State) (len : Nat) : (s.advance len).fault = s.fault := rfl
@[simp] theorem State.advance_cfg (s : State) (len : Nat) : (s.advance len).cfg = s.cfg := rfl

@[simp] theorem State.fetched_a (s : State) : s.fetched.a = s.a := rfl
@[simp] theorem State.fetched_x (s : State) : s.fetched.x = s.x := rfl
@[simp] theorem State.fetched_y (s : State) : s.fetched.y = s.y := rfl
@[simp] theorem State.fetched_p (s : State) : s.fetched.p = s.p := rfl
@[simp] theorem State.fetched_sp (s : State) : s.fetched.sp = s.sp := rfl
@[simp] theorem State.fetched_pc (s : State) : s.fetched.pc = s.pc + 1#16 := rfl
@[simp] theorem State.fetched_mem (s : State) : s.fetched.mem = s.mem := rfl
@[simp] theorem State.fetched_mode (s : State) : s.fetched.mode = s.mode := rfl
@[simp] theorem State.fetched_fault (s : State) : s.fetched.fault = s.fault := rfl
@[simp] theorem State.fetched_cfg (s : State) : s.fetched.cfg = s.cfg := rfl

/-! A read looks at memory alone. -/

@[simp] theorem State.read_setA (s : State) (v : Byte) (k : Addr) : (s.setA v).read k = s.read k := rfl
@[simp] theorem State.read_setX (s : State) (v : Byte) (k : Addr) : (s.setX v).read k = s.read k := rfl
@[simp] theorem State.read_setY (s : State) (v : Byte) (k : Addr) : (s.setY v).read k = s.read k := rfl
@[simp] theorem State.read_setP (s : State) (v : Flags) (k : Addr) : (s.setP v).read k = s.read k := rfl
@[simp] theorem State.read_setSP (s : State) (v : Byte) (k : Addr) : (s.setSP v).read k = s.read k := rfl
@[simp] theorem State.read_setPC (s : State) (v : Addr) (k : Addr) : (s.setPC v).read k = s.read k := rfl
@[simp] theorem State.read_setMode (s : State) (v : RunMode) (k : Addr) : (s.setMode v).read k = s.read k := rfl
@[simp] theorem State.read_setFault (s : State) (v : Option FaultReport) (k : Addr) : (s.setFault v).read k = s.read k := rfl
@[simp] theorem State.read_setNZ (s : State) (v : Byte) (k : Addr) : (s.setNZ v).read k = s.read k := rfl
@[simp] theorem State.read_advance (s : State) (len : Nat) (k : Addr) : (s.advance len).read k = s.read k := rfl
@[simp] theorem State.read_fetched (s : State) (k : Addr) : s.fetched.read k = s.read k := rfl

theorem State.read_congr {s t : State} (h : s.mem = t.mem) (k : Addr) : s.read k = t.read k := by
  simp only [State.read, h]

/-! The flags setNZ writes and those it leaves (R43). -/

@[simp] theorem Flags.setNZ_c (p : Flags) (w : Byte) : (p.setNZ w).c = p.c := rfl
@[simp] theorem Flags.setNZ_z (p : Flags) (w : Byte) : (p.setNZ w).z = (w == 0x00#8) := rfl
@[simp] theorem Flags.setNZ_i (p : Flags) (w : Byte) : (p.setNZ w).i = p.i := rfl
@[simp] theorem Flags.setNZ_d (p : Flags) (w : Byte) : (p.setNZ w).d = p.d := rfl
@[simp] theorem Flags.setNZ_b (p : Flags) (w : Byte) : (p.setNZ w).b = p.b := rfl
@[simp] theorem Flags.setNZ_v (p : Flags) (w : Byte) : (p.setNZ w).v = p.v := rfl
@[simp] theorem Flags.setNZ_n (p : Flags) (w : Byte) : (p.setNZ w).n = w.getLsbD 7 := rfl

end Sys2Proof.Machine
end

