-- ==== Sys2Proof/Laws/Memory.lean ====
section
/-! SUPPORT. The laws of memory: a read after a write to the same address gives the byte written, a write leaves every
other address alone, and every write keeps the canonical form. -/

namespace Sys2Proof.Machine

/-- The parts of the canonical form of a list with a first entry. -/
theorem Memory.wfFrom_cons {low j : Nat} {w : Byte} {rest : List Host.Cell} :
    Memory.wfFrom low ((j, w) :: rest) = true ↔
      low ≤ j ∧ j < 65536 ∧ w ≠ Memory.unlisted ∧ Memory.wfFrom (j + 1) rest = true := by
  simp [Memory.wfFrom, and_assoc]

/-- A canonical list is canonical from every lower bound below its own. -/
theorem Memory.wfFrom_mono {low low' : Nat} {m : List Host.Cell} (hle : low' ≤ low)
    (h : Memory.wfFrom low m = true) : Memory.wfFrom low' m = true := by
  cases m with
  | nil => rfl
  | cons c rest =>
    rw [Memory.wfFrom_cons] at h ⊢
    exact ⟨by omega, h.2⟩

/-- Below the least address a canonical list can hold, nothing is listed. -/
theorem Memory.lookup_below {m : List Host.Cell} {k low : Nat} (h : Memory.wfFrom low m = true) (hk : k < low) :
    Memory.lookup m k = Memory.unlisted := by
  induction m generalizing low with
  | nil => rfl
  | cons c rest ih =>
    obtain ⟨hlow, -, -, hrest⟩ := Memory.wfFrom_cons.mp h
    simp only [Memory.lookup, if_neg (by omega : ¬ c.1 = k)]
    exact ih hrest (by omega)

theorem Memory.lookup_store_same {m : List Host.Cell} {low : Nat} (h : Memory.wfFrom low m = true) (k : Nat)
    (v : Byte) : Memory.lookup (Memory.store m k v) k = v := by
  induction m generalizing low with
  | nil => by_cases hv : v = Memory.unlisted <;> simp [Memory.store, Memory.lookup, hv]
  | cons c rest ih =>
    obtain ⟨j, w⟩ := c
    obtain ⟨-, -, -, hrest⟩ := Memory.wfFrom_cons.mp h
    simp only [Memory.store]
    by_cases hkj : k < j
    · by_cases hv : v = Memory.unlisted
      · subst hv
        simp only [if_pos hkj, ↓reduceIte, Memory.lookup, if_neg (by omega : ¬ j = k)]
        exact Memory.lookup_below hrest (by omega)
      · simp [hkj, hv, Memory.lookup]
    · by_cases hjk : j = k
      · by_cases hv : v = Memory.unlisted
        · subst hv
          simp only [if_neg hkj, if_pos hjk, ↓reduceIte]
          exact Memory.lookup_below hrest (by omega)
        · simp [hjk, hv, Memory.lookup]
      · simp only [if_neg hkj, if_neg hjk, Memory.lookup]
        exact ih hrest

theorem Memory.lookup_store_other (m : List Host.Cell) {j k : Nat} (hne : j ≠ k) (v : Byte) :
    Memory.lookup (Memory.store m k v) j = Memory.lookup m j := by
  have hkj : ¬ k = j := fun h => hne h.symm
  induction m with
  | nil => by_cases hv : v = Memory.unlisted <;> simp [Memory.store, Memory.lookup, hv, hkj]
  | cons c rest ih =>
    obtain ⟨i, w⟩ := c
    simp only [Memory.store]
    split
    · split <;> simp [Memory.lookup, hkj]
    · split
      · next hik =>
        subst hik
        split <;> simp [Memory.lookup, hkj]
      · simp only [Memory.lookup, ih]

theorem Memory.wfFrom_store {m : List Host.Cell} {low : Nat} (h : Memory.wfFrom low m = true) {k : Nat}
    (hlow : low ≤ k) (hk : k < 65536) (v : Byte) : Memory.wfFrom low (Memory.store m k v) = true := by
  induction m generalizing low with
  | nil =>
    by_cases hv : v = Memory.unlisted
    · simp [Memory.store, hv, Memory.wfFrom]
    · simp [Memory.store, hv, Memory.wfFrom, hlow, hk]
  | cons c rest ih =>
    obtain ⟨j, w⟩ := c
    have hc := Memory.wfFrom_cons.mp h
    obtain ⟨hj, hj', hw, hrest⟩ := hc
    simp only [Memory.store]
    by_cases hkj : k < j
    · by_cases hv : v = Memory.unlisted
      · simp only [if_pos hkj, if_pos hv]
        exact h
      · simp only [if_pos hkj, if_neg hv, Memory.wfFrom_cons]
        exact ⟨hlow, hk, hv, by omega, hj', hw, hrest⟩
    · by_cases hjk : j = k
      · by_cases hv : v = Memory.unlisted
        · simp only [if_neg hkj, if_pos hjk, if_pos hv]
          exact Memory.wfFrom_mono (by omega) hrest
        · simp only [if_neg hkj, if_pos hjk, if_neg hv, Memory.wfFrom_cons]
          exact ⟨hlow, hk, hv, by subst hjk; exact hrest⟩
      · simp only [if_neg hkj, if_neg hjk, Memory.wfFrom_cons]
        exact ⟨hj, hj', hw, ih hrest (by omega)⟩

/-- The one operation that changes memory keeps its canonical form. -/
theorem State.wf_write {s : State} (h : Memory.wf s.mem = true) (k : Addr) (v : Byte) :
    Memory.wf (s.write k v).mem = true :=
  Memory.wfFrom_store h (Nat.zero_le _) k.isLt v

theorem State.read_write_same {s : State} (h : Memory.wf s.mem = true) (k : Addr) (v : Byte) :
    (s.write k v).read k = v :=
  Memory.lookup_store_same h k.toNat v

theorem State.read_write_other (s : State) {j k : Addr} (hne : j ≠ k) (v : Byte) :
    (s.write k v).read j = s.read j :=
  Memory.lookup_store_other s.mem (fun h => hne (BitVec.eq_of_toNat_eq h)) v

/-- Both cases of a read after a write. -/
theorem State.read_write {s : State} (h : Memory.wf s.mem = true) (j k : Addr) (v : Byte) :
    (s.write k v).read j = if j = k then v else s.read j := by
  split
  · next hjk => rw [hjk]; exact State.read_write_same h k v
  · next hjk => exact State.read_write_other s hjk v

theorem Memory.wf_nil : Memory.wf [] = true := rfl

end Sys2Proof.Machine
end

