-- ==== Sys2Proof/Laws/Word.lean ====
section
/-! SUPPORT. The byte-order helpers of the decoder: a word is its high byte and its low byte (00_scope.md R9). -/

namespace Sys2Proof

theorem word_high_low (w : Addr) : word (highByte w) (lowByte w) = w := by
  apply BitVec.eq_of_getLsbD_eq
  intro i hi
  simp only [word, highByte, lowByte, BitVec.getLsbD_append, BitVec.getLsbD_extractLsb']
  by_cases h : i < 8
  · simp [h]
  · have h8 : i - 8 < 8 := by omega
    have : 8 + (i - 8) = i := by omega
    simp [h, h8, this]

theorem lowByte_word (hi lo : Byte) : lowByte (word hi lo) = lo := by
  apply BitVec.eq_of_getLsbD_eq
  intro i h
  simp only [word, lowByte, BitVec.getLsbD_append, BitVec.getLsbD_extractLsb']
  simp [h]

theorem highByte_word (hi lo : Byte) : highByte (word hi lo) = hi := by
  apply BitVec.eq_of_getLsbD_eq
  intro i h
  simp only [word, highByte, BitVec.getLsbD_append, BitVec.getLsbD_extractLsb']
  simp [h]

/-- `hi:lo` as a number. -/
theorem word_toNat (hi lo : Byte) : (word hi lo).toNat = 256 * hi.toNat + lo.toNat := by
  have hl : lo.toNat < 2 ^ 8 := lo.isLt
  have h := Nat.two_pow_add_eq_or_of_lt hl hi.toNat
  simp only [word, BitVec.toNat_append, Nat.shiftLeft_eq]
  rw [Nat.mul_comm, ← h]

end Sys2Proof
end

