-- ==== Sys2Proof/Laws/Ops.lean ====
section
/-! SUPPORT. What the shared operations do, each said once: the end of an instruction, the stack, raising a fault, trap
entry and trap return. -/

namespace Sys2Proof.Machine

/-! ### The end of an instruction -/

@[simp] theorem finish_advance (len : Nat) (s : State) : finish len false s = .next (s.advance len) := rfl

@[simp] theorem finish_pcSet (len : Nat) (s : State) : finish len true s = .next s := rfl

/-- An instruction that ends, ends in a next state. -/
theorem finish_next (len : Nat) (pcSet : Bool) (s : State) :
    finish len pcSet s = .next (if pcSet then s else s.advance len) := rfl

/-- A raised fault is a fault, and leaves the faulted state. -/
theorem raise_ne_next (r : FaultReport) (s t : State) : raise r s ≠ .next t := by
  cases r <;> simp [raise]

/-! ### The stack -/

theorem stackAddr_toNat (sp : Byte) : (stackAddr sp).toNat = 256 + sp.toNat := by
  have h : sp.toNat < 2 ^ 8 := sp.isLt
  have e : 2 ^ 8 * 1 + sp.toNat = 2 ^ 8 * 1 ||| sp.toNat := Nat.two_pow_add_eq_or_of_lt h 1
  have hz : (zext sp).toNat = sp.toNat := by
    simp only [zext, BitVec.truncate_eq_setWidth, BitVec.toNat_setWidth]
    exact Nat.mod_eq_of_lt (by omega)
  rw [stackAddr, BitVec.toNat_or, hz]
  exact e.symm

/-- Different stack pointers stand for different addresses. -/
theorem stackAddr_inj {m n : Byte} : stackAddr m = stackAddr n ↔ m = n := by
  constructor
  · intro h
    have := congrArg BitVec.toNat h
    rw [stackAddr_toNat, stackAddr_toNat] at this
    exact BitVec.eq_of_toNat_eq (by omega)
  · intro h; rw [h]

@[simp] theorem State.push8_a (s : State) (v : Byte) : (s.push8 v).a = s.a := rfl
@[simp] theorem State.push8_x (s : State) (v : Byte) : (s.push8 v).x = s.x := rfl
@[simp] theorem State.push8_y (s : State) (v : Byte) : (s.push8 v).y = s.y := rfl
@[simp] theorem State.push8_p (s : State) (v : Byte) : (s.push8 v).p = s.p := rfl
@[simp] theorem State.push8_sp (s : State) (v : Byte) : (s.push8 v).sp = s.sp - 1#8 := rfl
@[simp] theorem State.push8_pc (s : State) (v : Byte) : (s.push8 v).pc = s.pc := rfl
@[simp] theorem State.push8_mem (s : State) (v : Byte) : (s.push8 v).mem = Memory.store s.mem (stackAddr s.sp).toNat v := rfl
@[simp] theorem State.push8_mode (s : State) (v : Byte) : (s.push8 v).mode = s.mode := rfl
@[simp] theorem State.push8_fault (s : State) (v : Byte) : (s.push8 v).fault = s.fault := rfl
@[simp] theorem State.push8_cfg (s : State) (v : Byte) : (s.push8 v).cfg = s.cfg := rfl

@[simp] theorem State.pull8_a (s : State) : s.pull8.2.a = s.a := rfl
@[simp] theorem State.pull8_x (s : State) : s.pull8.2.x = s.x := rfl
@[simp] theorem State.pull8_y (s : State) : s.pull8.2.y = s.y := rfl
@[simp] theorem State.pull8_p (s : State) : s.pull8.2.p = s.p := rfl
@[simp] theorem State.pull8_sp (s : State) : s.pull8.2.sp = s.sp + 1#8 := rfl
@[simp] theorem State.pull8_pc (s : State) : s.pull8.2.pc = s.pc := rfl
@[simp] theorem State.pull8_mem (s : State) : s.pull8.2.mem = s.mem := rfl
@[simp] theorem State.pull8_mode (s : State) : s.pull8.2.mode = s.mode := rfl
@[simp] theorem State.pull8_fault (s : State) : s.pull8.2.fault = s.fault := rfl
@[simp] theorem State.pull8_cfg (s : State) : s.pull8.2.cfg = s.cfg := rfl
@[simp] theorem State.pull8_byte (s : State) : s.pull8.1 = s.read (stackAddr (s.sp + 1#8)) := rfl
@[simp] theorem State.read_pull8 (s : State) (k : Addr) : s.pull8.2.read k = s.read k := rfl

@[simp] theorem State.push16_a (s : State) (v : Addr) : (s.push16 v).a = s.a := by
  simp only [State.push16, State.push8_a]
@[simp] theorem State.push16_x (s : State) (v : Addr) : (s.push16 v).x = s.x := by
  simp only [State.push16, State.push8_x]
@[simp] theorem State.push16_y (s : State) (v : Addr) : (s.push16 v).y = s.y := by
  simp only [State.push16, State.push8_y]
@[simp] theorem State.push16_p (s : State) (v : Addr) : (s.push16 v).p = s.p := by
  simp only [State.push16, State.push8_p]
@[simp] theorem State.push16_sp (s : State) (v : Addr) : (s.push16 v).sp = s.sp - 1#8 - 1#8 := by
  simp only [State.push16, State.push8_sp]
@[simp] theorem State.push16_pc (s : State) (v : Addr) : (s.push16 v).pc = s.pc := by
  simp only [State.push16, State.push8_pc]
@[simp] theorem State.push16_mode (s : State) (v : Addr) : (s.push16 v).mode = s.mode := by
  simp only [State.push16, State.push8_mode]
@[simp] theorem State.push16_fault (s : State) (v : Addr) : (s.push16 v).fault = s.fault := by
  simp only [State.push16, State.push8_fault]
@[simp] theorem State.push16_cfg (s : State) (v : Addr) : (s.push16 v).cfg = s.cfg := by
  simp only [State.push16, State.push8_cfg]

@[simp] theorem State.pull16_a (s : State) : s.pull16.2.a = s.a := by
  simp only [State.pull16, State.pull8_a]
@[simp] theorem State.pull16_x (s : State) : s.pull16.2.x = s.x := by
  simp only [State.pull16, State.pull8_x]
@[simp] theorem State.pull16_y (s : State) : s.pull16.2.y = s.y := by
  simp only [State.pull16, State.pull8_y]
@[simp] theorem State.pull16_p (s : State) : s.pull16.2.p = s.p := by
  simp only [State.pull16, State.pull8_p]
@[simp] theorem State.pull16_sp (s : State) : s.pull16.2.sp = s.sp + 1#8 + 1#8 := by
  simp only [State.pull16, State.pull8_sp]
@[simp] theorem State.pull16_pc (s : State) : s.pull16.2.pc = s.pc := by
  simp only [State.pull16, State.pull8_pc]
@[simp] theorem State.pull16_mem (s : State) : s.pull16.2.mem = s.mem := by
  simp only [State.pull16, State.pull8_mem]
@[simp] theorem State.pull16_mode (s : State) : s.pull16.2.mode = s.mode := by
  simp only [State.pull16, State.pull8_mode]
@[simp] theorem State.pull16_fault (s : State) : s.pull16.2.fault = s.fault := by
  simp only [State.pull16, State.pull8_fault]
@[simp] theorem State.pull16_cfg (s : State) : s.pull16.2.cfg = s.cfg := by
  simp only [State.pull16, State.pull8_cfg]
@[simp] theorem State.pull16_word (s : State) :
    s.pull16.1 = word (s.read (stackAddr (s.sp + 1#8 + 1#8))) (s.read (stackAddr (s.sp + 1#8))) := by
  simp only [State.pull16, State.pull8_byte, State.pull8_sp, State.read_pull8]
@[simp] theorem State.read_pull16 (s : State) (k : Addr) : s.pull16.2.read k = s.read k := by
  simp only [State.pull16, State.read_pull8]

@[simp] theorem State.trapEntry_a (s : State) : s.trapEntry.a = s.a := by
  simp [State.trapEntry]
@[simp] theorem State.trapEntry_x (s : State) : s.trapEntry.x = s.x := by
  simp [State.trapEntry]
@[simp] theorem State.trapEntry_y (s : State) : s.trapEntry.y = s.y := by
  simp [State.trapEntry]
@[simp] theorem State.trapEntry_p (s : State) : s.trapEntry.p = { s.p with b := true, i := s.cfg.brkSetsI || s.p.i } := by
  simp [State.trapEntry]
@[simp] theorem State.trapEntry_sp (s : State) : s.trapEntry.sp = s.sp - 1#8 - 1#8 - 1#8 := by
  simp [State.trapEntry]
@[simp] theorem State.trapEntry_pc (s : State) : s.trapEntry.pc = s.pc := by
  simp [State.trapEntry]
@[simp] theorem State.trapEntry_mode (s : State) : s.trapEntry.mode = .halted := by
  simp [State.trapEntry]
@[simp] theorem State.trapEntry_fault (s : State) : s.trapEntry.fault = s.fault := by
  simp [State.trapEntry]
@[simp] theorem State.trapEntry_cfg (s : State) : s.trapEntry.cfg = s.cfg := by
  simp [State.trapEntry]

@[simp] theorem State.trapReturn_a (s : State) : s.trapReturn.a =
    s.a := by
  simp [State.trapReturn]
@[simp] theorem State.trapReturn_x (s : State) : s.trapReturn.x =
    s.x := by
  simp [State.trapReturn]
@[simp] theorem State.trapReturn_y (s : State) : s.trapReturn.y =
    s.y := by
  simp [State.trapReturn]
@[simp] theorem State.trapReturn_p (s : State) : s.trapReturn.p =
    Flags.ofPulled (s.read (stackAddr (s.sp + 1#8))) := by
  simp [State.trapReturn]
@[simp] theorem State.trapReturn_sp (s : State) : s.trapReturn.sp =
    s.sp + 1#8 + 1#8 + 1#8 := by
  simp [State.trapReturn]
@[simp] theorem State.trapReturn_pc (s : State) : s.trapReturn.pc =
    word (s.read (stackAddr (s.sp + 1#8 + 1#8 + 1#8))) (s.read (stackAddr (s.sp + 1#8 + 1#8))) := by
  simp [State.trapReturn]
@[simp] theorem State.trapReturn_mem (s : State) : s.trapReturn.mem =
    s.mem := by
  simp [State.trapReturn]
@[simp] theorem State.trapReturn_mode (s : State) : s.trapReturn.mode =
    s.mode := by
  simp [State.trapReturn]
@[simp] theorem State.trapReturn_fault (s : State) : s.trapReturn.fault =
    s.fault := by
  simp [State.trapReturn]
@[simp] theorem State.trapReturn_cfg (s : State) : s.trapReturn.cfg =
    s.cfg := by
  simp [State.trapReturn]

@[simp] theorem State.faulted_a (s : State) (r : FaultReport) : (s.faulted r).a = s.a := rfl
@[simp] theorem State.faulted_x (s : State) (r : FaultReport) : (s.faulted r).x = s.x := rfl
@[simp] theorem State.faulted_y (s : State) (r : FaultReport) : (s.faulted r).y = s.y := rfl
@[simp] theorem State.faulted_p (s : State) (r : FaultReport) : (s.faulted r).p = s.p := rfl
@[simp] theorem State.faulted_sp (s : State) (r : FaultReport) : (s.faulted r).sp = s.sp := rfl
@[simp] theorem State.faulted_pc (s : State) (r : FaultReport) : (s.faulted r).pc = s.pc := rfl
@[simp] theorem State.faulted_mem (s : State) (r : FaultReport) : (s.faulted r).mem = s.mem := rfl
@[simp] theorem State.faulted_mode (s : State) (r : FaultReport) : (s.faulted r).mode = .faulted := rfl
@[simp] theorem State.faulted_fault (s : State) (r : FaultReport) : (s.faulted r).fault = some r := rfl
@[simp] theorem State.faulted_cfg (s : State) (r : FaultReport) : (s.faulted r).cfg = s.cfg := rfl

theorem State.wf_push8 {s : State} (h : Memory.wf s.mem = true) (v : Byte) : Memory.wf (s.push8 v).mem = true :=
  State.wf_write h _ _

theorem State.wf_push16 {s : State} (h : Memory.wf s.mem = true) (v : Addr) : Memory.wf (s.push16 v).mem = true :=
  State.wf_push8 (State.wf_push8 h _) _

theorem State.wf_trapEntry {s : State} (h : Memory.wf s.mem = true) : Memory.wf s.trapEntry.mem = true := by
  simp only [State.trapEntry, State.setMode_mem, State.setP_mem]
  exact State.wf_push8 (State.wf_push16 h _) _

/-- A read after a push: the pushed byte at the old stack address, every other byte as before. -/
theorem State.read_push8 {s : State} (h : Memory.wf s.mem = true) (v : Byte) (k : Addr) :
    (s.push8 v).read k = if k = stackAddr s.sp then v else s.read k :=
  State.read_write h k (stackAddr s.sp) v

/-- A read after a 16-bit push: the two pushed bytes, every other byte as before. -/
theorem State.read_push16 {s : State} (h : Memory.wf s.mem = true) (v : Addr) (k : Addr) :
    (s.push16 v).read k =
      if k = stackAddr (s.sp - 1#8) then lowByte v else if k = stackAddr s.sp then highByte v else s.read k := by
  unfold State.push16
  rw [State.read_push8 (State.wf_push8 h _), State.push8_sp, State.read_push8 h]

/-- A read after a trap entry: the three bytes of the frame, every other byte as before. -/
theorem State.read_trapEntry {s : State} (h : Memory.wf s.mem = true) (k : Addr) :
    s.trapEntry.read k =
      if k = stackAddr (s.sp - 1#8 - 1#8) then s.p.pushed
      else if k = stackAddr (s.sp - 1#8) then lowByte (s.pc + 1#16)
      else if k = stackAddr s.sp then highByte (s.pc + 1#16)
      else s.read k := by
  simp only [State.trapEntry, State.read_setMode, State.read_setP]
  rw [State.read_push8 (State.wf_push16 h _), State.push16_sp, State.read_push16 h]

end Sys2Proof.Machine
end

