-- ==== Sys2Proof/Laws/Operands.lean ====
section
/-! SUPPORT. What the operand helpers do, each said once: an inversion lemma for each shape of instruction, which later
proofs cite instead of unfolding the helper. -/

namespace Sys2Proof.Machine

open Host (Outcome)

/-- `JMP`, stores and branches: the instruction has an effective address and goes on with it. -/
theorem withAddress_some {o : Operand} {s : State} {ea : Addr} (h : resolve o s = some ea)
    (k : Addr → Outcome State Fault Refusal) : withAddress o s k = k ea := by
  simp only [withAddress, h]

theorem withOperand_some {o : Operand} {s : State} {m : Byte} (h : readOperand o s = some m)
    (k : Byte → Outcome State Fault Refusal) : withOperand o s k = k m := by
  simp only [withOperand, h]

/-- An instruction that reads its operand ends in a next state exactly when it has an operand, and that state is what
its effect gives, advanced. -/
theorem readInto_eq_next {o : Operand} {s t : State} {f : Byte → State} :
    readInto o s f = .next t ↔ ∃ m, readOperand o s = some m ∧ t = (f m).advance o.length := by
  simp only [readInto, withOperand]
  cases h : readOperand o s with
  | none => simp [raise_ne_next]
  | some m => simp [eq_comm]

/-- A store ends in a next state exactly when it has an effective address, and it writes there. -/
theorem storeByte_eq_next {o : Operand} {s t : State} {v : Byte} :
    storeByte o s v = .next t ↔ ∃ ea, resolve o s = some ea ∧ t = (s.write ea v).advance o.length := by
  simp only [storeByte, withAddress]
  cases h : resolve o s with
  | none => simp [raise_ne_next]
  | some ea => simp [eq_comm]

/-- A read-modify-write writes back to the place it read and sets P. -/
theorem modifyOperand_eq_next {o : Operand} {s t : State} {f : Byte → Flags → Byte × Flags} :
    modifyOperand o s f = .next t ↔
      ∃ v u, readOperand o s = some v ∧ writeBack o (f v s.p).1 s = some u ∧
        t = (u.setP (f v s.p).2).advance o.length := by
  simp only [modifyOperand, withOperand]
  cases h : readOperand o s with
  | none => simp [raise_ne_next]
  | some v =>
    cases hw : writeBack o (f v s.p).1 s with
    | none => simp [raise_ne_next, hw]
    | some u => simp [hw, eq_comm]

/-- Writing back changes A in Accumulator mode and the addressed byte in every other mode, and nothing else. -/
theorem writeBack_cases {o : Operand} {s u : State} {v : Byte} (h : writeBack o v s = some u) :
    (o = .accumulator ∧ u = s.setA v) ∨ (o ≠ .accumulator ∧ ∃ ea, resolve o s = some ea ∧ u = s.write ea v) := by
  cases o <;> simp_all [writeBack, resolve]

/-- An instruction that reads its operand is never refused. -/
theorem readInto_ne_refused {o : Operand} {s : State} {f : Byte → State} {r : Refusal} :
    readInto o s f ≠ .refused r := by
  simp only [readInto, withOperand, raise]
  cases readOperand o s <;> simp

end Sys2Proof.Machine
end

