-- ==== Sys2Proof/Laws/PerInstr.lean ====
section
/-! SUPPORT. One lemma per instruction: it is well-formed, the table's row at its opcode byte has its mnemonic and its
mode, and the decoder's `build` makes it from its mnemonic and operand (30_encoding.md R106, R109). -/

/-- What is said of each instruction. -/
def Sys2Proof.Laws.Fits.Statement (i : Sys2Proof.Instr) : Prop :=
  i.wf = true ∧ (Sys2Proof.lookup (Sys2Proof.opcodeOf i)).map (fun d => (d.kind, d.mode)) = some (i.kind, i.mode) ∧
    Sys2Proof.build i.kind i.operand = some i

/-- The statement from the instruction's opcode, mnemonic and mode, with a look-up of a plain byte. -/
theorem Sys2Proof.Laws.Fits.Statement.of_row {i : Sys2Proof.Instr} {opcode : Sys2Proof.Byte} {k : Sys2Proof.Kind}
    {m : Sys2Proof.AddrMode} (ho : Sys2Proof.opcodeOf i = opcode) (hk : i.kind = k) (hm : i.mode = m)
    (hrow : (Sys2Proof.lookup opcode).map (fun d => (d.kind, d.mode)) = some (k, m))
    (hwf : k.modes.contains m = true) (hb : Sys2Proof.build k i.operand = some i) :
    Sys2Proof.Laws.Fits.Statement i := by
  subst ho hk hm
  exact ⟨hwf, hrow, hb⟩

theorem Sys2Proof.Laws.Fits.ldaImm (v : Sys2Proof.Byte) : Sys2Proof.Laws.Fits.Statement (.ldaImm v) :=
  .of_row (opcode := 0xA9#8) (k := .lda) (m := .immediate) rfl rfl rfl rfl rfl rfl
theorem Sys2Proof.Laws.Fits.ldaZp (zp : Sys2Proof.Byte) : Sys2Proof.Laws.Fits.Statement (.ldaZp zp) :=
  .of_row (opcode := 0xA5#8) (k := .lda) (m := .zeroPage) rfl rfl rfl rfl rfl rfl
theorem Sys2Proof.Laws.Fits.ldaZpX (zp : Sys2Proof.Byte) : Sys2Proof.Laws.Fits.Statement (.ldaZpX zp) :=
  .of_row (opcode := 0xB5#8) (k := .lda) (m := .zeroPageX) rfl rfl rfl rfl rfl rfl
theorem Sys2Proof.Laws.Fits.ldaAbs (w : Sys2Proof.Addr) : Sys2Proof.Laws.Fits.Statement (.ldaAbs w) :=
  .of_row (opcode := 0xAD#8) (k := .lda) (m := .absolute) rfl rfl rfl rfl rfl rfl
theorem Sys2Proof.Laws.Fits.ldaAbsX (w : Sys2Proof.Addr) : Sys2Proof.Laws.Fits.Statement (.ldaAbsX w) :=
  .of_row (opcode := 0xBD#8) (k := .lda) (m := .absoluteX) rfl rfl rfl rfl rfl rfl
theorem Sys2Proof.Laws.Fits.ldaAbsY (w : Sys2Proof.Addr) : Sys2Proof.Laws.Fits.Statement (.ldaAbsY w) :=
  .of_row (opcode := 0xB9#8) (k := .lda) (m := .absoluteY) rfl rfl rfl rfl rfl rfl
theorem Sys2Proof.Laws.Fits.ldaIndX (zp : Sys2Proof.Byte) : Sys2Proof.Laws.Fits.Statement (.ldaIndX zp) :=
  .of_row (opcode := 0xA1#8) (k := .lda) (m := .indirectX) rfl rfl rfl rfl rfl rfl
theorem Sys2Proof.Laws.Fits.ldaIndY (zp : Sys2Proof.Byte) : Sys2Proof.Laws.Fits.Statement (.ldaIndY zp) :=
  .of_row (opcode := 0xB1#8) (k := .lda) (m := .indirectY) rfl rfl rfl rfl rfl rfl
theorem Sys2Proof.Laws.Fits.ldxImm (v : Sys2Proof.Byte) : Sys2Proof.Laws.Fits.Statement (.ldxImm v) :=
  .of_row (opcode := 0xA2#8) (k := .ldx) (m := .immediate) rfl rfl rfl rfl rfl rfl
theorem Sys2Proof.Laws.Fits.ldxZp (zp : Sys2Proof.Byte) : Sys2Proof.Laws.Fits.Statement (.ldxZp zp) :=
  .of_row (opcode := 0xA6#8) (k := .ldx) (m := .zeroPage) rfl rfl rfl rfl rfl rfl
theorem Sys2Proof.Laws.Fits.ldxZpY (zp : Sys2Proof.Byte) : Sys2Proof.Laws.Fits.Statement (.ldxZpY zp) :=
  .of_row (opcode := 0xB6#8) (k := .ldx) (m := .zeroPageY) rfl rfl rfl rfl rfl rfl
theorem Sys2Proof.Laws.Fits.ldxAbs (w : Sys2Proof.Addr) : Sys2Proof.Laws.Fits.Statement (.ldxAbs w) :=
  .of_row (opcode := 0xAE#8) (k := .ldx) (m := .absolute) rfl rfl rfl rfl rfl rfl
theorem Sys2Proof.Laws.Fits.ldxAbsY (w : Sys2Proof.Addr) : Sys2Proof.Laws.Fits.Statement (.ldxAbsY w) :=
  .of_row (opcode := 0xBE#8) (k := .ldx) (m := .absoluteY) rfl rfl rfl rfl rfl rfl
theorem Sys2Proof.Laws.Fits.ldyImm (v : Sys2Proof.Byte) : Sys2Proof.Laws.Fits.Statement (.ldyImm v) :=
  .of_row (opcode := 0xA0#8) (k := .ldy) (m := .immediate) rfl rfl rfl rfl rfl rfl
theorem Sys2Proof.Laws.Fits.ldyZp (zp : Sys2Proof.Byte) : Sys2Proof.Laws.Fits.Statement (.ldyZp zp) :=
  .of_row (opcode := 0xA4#8) (k := .ldy) (m := .zeroPage) rfl rfl rfl rfl rfl rfl
theorem Sys2Proof.Laws.Fits.ldyZpX (zp : Sys2Proof.Byte) : Sys2Proof.Laws.Fits.Statement (.ldyZpX zp) :=
  .of_row (opcode := 0xB4#8) (k := .ldy) (m := .zeroPageX) rfl rfl rfl rfl rfl rfl
theorem Sys2Proof.Laws.Fits.ldyAbs (w : Sys2Proof.Addr) : Sys2Proof.Laws.Fits.Statement (.ldyAbs w) :=
  .of_row (opcode := 0xAC#8) (k := .ldy) (m := .absolute) rfl rfl rfl rfl rfl rfl
theorem Sys2Proof.Laws.Fits.ldyAbsX (w : Sys2Proof.Addr) : Sys2Proof.Laws.Fits.Statement (.ldyAbsX w) :=
  .of_row (opcode := 0xBC#8) (k := .ldy) (m := .absoluteX) rfl rfl rfl rfl rfl rfl
theorem Sys2Proof.Laws.Fits.staZp (zp : Sys2Proof.Byte) : Sys2Proof.Laws.Fits.Statement (.staZp zp) :=
  .of_row (opcode := 0x85#8) (k := .sta) (m := .zeroPage) rfl rfl rfl rfl rfl rfl
theorem Sys2Proof.Laws.Fits.staZpX (zp : Sys2Proof.Byte) : Sys2Proof.Laws.Fits.Statement (.staZpX zp) :=
  .of_row (opcode := 0x95#8) (k := .sta) (m := .zeroPageX) rfl rfl rfl rfl rfl rfl
theorem Sys2Proof.Laws.Fits.staAbs (w : Sys2Proof.Addr) : Sys2Proof.Laws.Fits.Statement (.staAbs w) :=
  .of_row (opcode := 0x8D#8) (k := .sta) (m := .absolute) rfl rfl rfl rfl rfl rfl
theorem Sys2Proof.Laws.Fits.staAbsX (w : Sys2Proof.Addr) : Sys2Proof.Laws.Fits.Statement (.staAbsX w) :=
  .of_row (opcode := 0x9D#8) (k := .sta) (m := .absoluteX) rfl rfl rfl rfl rfl rfl
theorem Sys2Proof.Laws.Fits.staAbsY (w : Sys2Proof.Addr) : Sys2Proof.Laws.Fits.Statement (.staAbsY w) :=
  .of_row (opcode := 0x99#8) (k := .sta) (m := .absoluteY) rfl rfl rfl rfl rfl rfl
theorem Sys2Proof.Laws.Fits.staIndX (zp : Sys2Proof.Byte) : Sys2Proof.Laws.Fits.Statement (.staIndX zp) :=
  .of_row (opcode := 0x81#8) (k := .sta) (m := .indirectX) rfl rfl rfl rfl rfl rfl
theorem Sys2Proof.Laws.Fits.staIndY (zp : Sys2Proof.Byte) : Sys2Proof.Laws.Fits.Statement (.staIndY zp) :=
  .of_row (opcode := 0x91#8) (k := .sta) (m := .indirectY) rfl rfl rfl rfl rfl rfl
theorem Sys2Proof.Laws.Fits.stxZp (zp : Sys2Proof.Byte) : Sys2Proof.Laws.Fits.Statement (.stxZp zp) :=
  .of_row (opcode := 0x86#8) (k := .stx) (m := .zeroPage) rfl rfl rfl rfl rfl rfl
theorem Sys2Proof.Laws.Fits.stxZpY (zp : Sys2Proof.Byte) : Sys2Proof.Laws.Fits.Statement (.stxZpY zp) :=
  .of_row (opcode := 0x96#8) (k := .stx) (m := .zeroPageY) rfl rfl rfl rfl rfl rfl
theorem Sys2Proof.Laws.Fits.stxAbs (w : Sys2Proof.Addr) : Sys2Proof.Laws.Fits.Statement (.stxAbs w) :=
  .of_row (opcode := 0x8E#8) (k := .stx) (m := .absolute) rfl rfl rfl rfl rfl rfl
theorem Sys2Proof.Laws.Fits.styZp (zp : Sys2Proof.Byte) : Sys2Proof.Laws.Fits.Statement (.styZp zp) :=
  .of_row (opcode := 0x84#8) (k := .sty) (m := .zeroPage) rfl rfl rfl rfl rfl rfl
theorem Sys2Proof.Laws.Fits.styZpX (zp : Sys2Proof.Byte) : Sys2Proof.Laws.Fits.Statement (.styZpX zp) :=
  .of_row (opcode := 0x94#8) (k := .sty) (m := .zeroPageX) rfl rfl rfl rfl rfl rfl
theorem Sys2Proof.Laws.Fits.styAbs (w : Sys2Proof.Addr) : Sys2Proof.Laws.Fits.Statement (.styAbs w) :=
  .of_row (opcode := 0x8C#8) (k := .sty) (m := .absolute) rfl rfl rfl rfl rfl rfl
theorem Sys2Proof.Laws.Fits.tax : Sys2Proof.Laws.Fits.Statement (.tax) :=
  .of_row (opcode := 0xAA#8) (k := .tax) (m := .implied) rfl rfl rfl rfl rfl rfl
theorem Sys2Proof.Laws.Fits.txa : Sys2Proof.Laws.Fits.Statement (.txa) :=
  .of_row (opcode := 0x8A#8) (k := .txa) (m := .implied) rfl rfl rfl rfl rfl rfl
theorem Sys2Proof.Laws.Fits.tay : Sys2Proof.Laws.Fits.Statement (.tay) :=
  .of_row (opcode := 0xA8#8) (k := .tay) (m := .implied) rfl rfl rfl rfl rfl rfl
theorem Sys2Proof.Laws.Fits.tya : Sys2Proof.Laws.Fits.Statement (.tya) :=
  .of_row (opcode := 0x98#8) (k := .tya) (m := .implied) rfl rfl rfl rfl rfl rfl
theorem Sys2Proof.Laws.Fits.tsx : Sys2Proof.Laws.Fits.Statement (.tsx) :=
  .of_row (opcode := 0xBA#8) (k := .tsx) (m := .implied) rfl rfl rfl rfl rfl rfl
theorem Sys2Proof.Laws.Fits.txs : Sys2Proof.Laws.Fits.Statement (.txs) :=
  .of_row (opcode := 0x9A#8) (k := .txs) (m := .implied) rfl rfl rfl rfl rfl rfl
theorem Sys2Proof.Laws.Fits.adcImm (v : Sys2Proof.Byte) : Sys2Proof.Laws.Fits.Statement (.adcImm v) :=
  .of_row (opcode := 0x69#8) (k := .adc) (m := .immediate) rfl rfl rfl rfl rfl rfl
theorem Sys2Proof.Laws.Fits.adcZp (zp : Sys2Proof.Byte) : Sys2Proof.Laws.Fits.Statement (.adcZp zp) :=
  .of_row (opcode := 0x65#8) (k := .adc) (m := .zeroPage) rfl rfl rfl rfl rfl rfl
theorem Sys2Proof.Laws.Fits.adcZpX (zp : Sys2Proof.Byte) : Sys2Proof.Laws.Fits.Statement (.adcZpX zp) :=
  .of_row (opcode := 0x75#8) (k := .adc) (m := .zeroPageX) rfl rfl rfl rfl rfl rfl
theorem Sys2Proof.Laws.Fits.adcAbs (w : Sys2Proof.Addr) : Sys2Proof.Laws.Fits.Statement (.adcAbs w) :=
  .of_row (opcode := 0x6D#8) (k := .adc) (m := .absolute) rfl rfl rfl rfl rfl rfl
theorem Sys2Proof.Laws.Fits.adcAbsX (w : Sys2Proof.Addr) : Sys2Proof.Laws.Fits.Statement (.adcAbsX w) :=
  .of_row (opcode := 0x7D#8) (k := .adc) (m := .absoluteX) rfl rfl rfl rfl rfl rfl
theorem Sys2Proof.Laws.Fits.adcAbsY (w : Sys2Proof.Addr) : Sys2Proof.Laws.Fits.Statement (.adcAbsY w) :=
  .of_row (opcode := 0x79#8) (k := .adc) (m := .absoluteY) rfl rfl rfl rfl rfl rfl
theorem Sys2Proof.Laws.Fits.adcIndX (zp : Sys2Proof.Byte) : Sys2Proof.Laws.Fits.Statement (.adcIndX zp) :=
  .of_row (opcode := 0x61#8) (k := .adc) (m := .indirectX) rfl rfl rfl rfl rfl rfl
theorem Sys2Proof.Laws.Fits.adcIndY (zp : Sys2Proof.Byte) : Sys2Proof.Laws.Fits.Statement (.adcIndY zp) :=
  .of_row (opcode := 0x71#8) (k := .adc) (m := .indirectY) rfl rfl rfl rfl rfl rfl
theorem Sys2Proof.Laws.Fits.sbcImm (v : Sys2Proof.Byte) : Sys2Proof.Laws.Fits.Statement (.sbcImm v) :=
  .of_row (opcode := 0xE9#8) (k := .sbc) (m := .immediate) rfl rfl rfl rfl rfl rfl
theorem Sys2Proof.Laws.Fits.sbcZp (zp : Sys2Proof.Byte) : Sys2Proof.Laws.Fits.Statement (.sbcZp zp) :=
  .of_row (opcode := 0xE5#8) (k := .sbc) (m := .zeroPage) rfl rfl rfl rfl rfl rfl
theorem Sys2Proof.Laws.Fits.sbcZpX (zp : Sys2Proof.Byte) : Sys2Proof.Laws.Fits.Statement (.sbcZpX zp) :=
  .of_row (opcode := 0xF5#8) (k := .sbc) (m := .zeroPageX) rfl rfl rfl rfl rfl rfl
theorem Sys2Proof.Laws.Fits.sbcAbs (w : Sys2Proof.Addr) : Sys2Proof.Laws.Fits.Statement (.sbcAbs w) :=
  .of_row (opcode := 0xED#8) (k := .sbc) (m := .absolute) rfl rfl rfl rfl rfl rfl
theorem Sys2Proof.Laws.Fits.sbcAbsX (w : Sys2Proof.Addr) : Sys2Proof.Laws.Fits.Statement (.sbcAbsX w) :=
  .of_row (opcode := 0xFD#8) (k := .sbc) (m := .absoluteX) rfl rfl rfl rfl rfl rfl
theorem Sys2Proof.Laws.Fits.sbcAbsY (w : Sys2Proof.Addr) : Sys2Proof.Laws.Fits.Statement (.sbcAbsY w) :=
  .of_row (opcode := 0xF9#8) (k := .sbc) (m := .absoluteY) rfl rfl rfl rfl rfl rfl
theorem Sys2Proof.Laws.Fits.sbcIndX (zp : Sys2Proof.Byte) : Sys2Proof.Laws.Fits.Statement (.sbcIndX zp) :=
  .of_row (opcode := 0xE1#8) (k := .sbc) (m := .indirectX) rfl rfl rfl rfl rfl rfl
theorem Sys2Proof.Laws.Fits.sbcIndY (zp : Sys2Proof.Byte) : Sys2Proof.Laws.Fits.Statement (.sbcIndY zp) :=
  .of_row (opcode := 0xF1#8) (k := .sbc) (m := .indirectY) rfl rfl rfl rfl rfl rfl
theorem Sys2Proof.Laws.Fits.andImm (v : Sys2Proof.Byte) : Sys2Proof.Laws.Fits.Statement (.andImm v) :=
  .of_row (opcode := 0x29#8) (k := .and) (m := .immediate) rfl rfl rfl rfl rfl rfl
theorem Sys2Proof.Laws.Fits.andZp (zp : Sys2Proof.Byte) : Sys2Proof.Laws.Fits.Statement (.andZp zp) :=
  .of_row (opcode := 0x25#8) (k := .and) (m := .zeroPage) rfl rfl rfl rfl rfl rfl
theorem Sys2Proof.Laws.Fits.andZpX (zp : Sys2Proof.Byte) : Sys2Proof.Laws.Fits.Statement (.andZpX zp) :=
  .of_row (opcode := 0x35#8) (k := .and) (m := .zeroPageX) rfl rfl rfl rfl rfl rfl
theorem Sys2Proof.Laws.Fits.andAbs (w : Sys2Proof.Addr) : Sys2Proof.Laws.Fits.Statement (.andAbs w) :=
  .of_row (opcode := 0x2D#8) (k := .and) (m := .absolute) rfl rfl rfl rfl rfl rfl
theorem Sys2Proof.Laws.Fits.andAbsX (w : Sys2Proof.Addr) : Sys2Proof.Laws.Fits.Statement (.andAbsX w) :=
  .of_row (opcode := 0x3D#8) (k := .and) (m := .absoluteX) rfl rfl rfl rfl rfl rfl
theorem Sys2Proof.Laws.Fits.andAbsY (w : Sys2Proof.Addr) : Sys2Proof.Laws.Fits.Statement (.andAbsY w) :=
  .of_row (opcode := 0x39#8) (k := .and) (m := .absoluteY) rfl rfl rfl rfl rfl rfl
theorem Sys2Proof.Laws.Fits.andIndX (zp : Sys2Proof.Byte) : Sys2Proof.Laws.Fits.Statement (.andIndX zp) :=
  .of_row (opcode := 0x21#8) (k := .and) (m := .indirectX) rfl rfl rfl rfl rfl rfl
theorem Sys2Proof.Laws.Fits.andIndY (zp : Sys2Proof.Byte) : Sys2Proof.Laws.Fits.Statement (.andIndY zp) :=
  .of_row (opcode := 0x31#8) (k := .and) (m := .indirectY) rfl rfl rfl rfl rfl rfl
theorem Sys2Proof.Laws.Fits.oraImm (v : Sys2Proof.Byte) : Sys2Proof.Laws.Fits.Statement (.oraImm v) :=
  .of_row (opcode := 0x09#8) (k := .ora) (m := .immediate) rfl rfl rfl rfl rfl rfl
theorem Sys2Proof.Laws.Fits.oraZp (zp : Sys2Proof.Byte) : Sys2Proof.Laws.Fits.Statement (.oraZp zp) :=
  .of_row (opcode := 0x05#8) (k := .ora) (m := .zeroPage) rfl rfl rfl rfl rfl rfl
theorem Sys2Proof.Laws.Fits.oraZpX (zp : Sys2Proof.Byte) : Sys2Proof.Laws.Fits.Statement (.oraZpX zp) :=
  .of_row (opcode := 0x15#8) (k := .ora) (m := .zeroPageX) rfl rfl rfl rfl rfl rfl
theorem Sys2Proof.Laws.Fits.oraAbs (w : Sys2Proof.Addr) : Sys2Proof.Laws.Fits.Statement (.oraAbs w) :=
  .of_row (opcode := 0x0D#8) (k := .ora) (m := .absolute) rfl rfl rfl rfl rfl rfl
theorem Sys2Proof.Laws.Fits.oraAbsX (w : Sys2Proof.Addr) : Sys2Proof.Laws.Fits.Statement (.oraAbsX w) :=
  .of_row (opcode := 0x1D#8) (k := .ora) (m := .absoluteX) rfl rfl rfl rfl rfl rfl
theorem Sys2Proof.Laws.Fits.oraAbsY (w : Sys2Proof.Addr) : Sys2Proof.Laws.Fits.Statement (.oraAbsY w) :=
  .of_row (opcode := 0x19#8) (k := .ora) (m := .absoluteY) rfl rfl rfl rfl rfl rfl
theorem Sys2Proof.Laws.Fits.oraIndX (zp : Sys2Proof.Byte) : Sys2Proof.Laws.Fits.Statement (.oraIndX zp) :=
  .of_row (opcode := 0x01#8) (k := .ora) (m := .indirectX) rfl rfl rfl rfl rfl rfl
theorem Sys2Proof.Laws.Fits.oraIndY (zp : Sys2Proof.Byte) : Sys2Proof.Laws.Fits.Statement (.oraIndY zp) :=
  .of_row (opcode := 0x11#8) (k := .ora) (m := .indirectY) rfl rfl rfl rfl rfl rfl
theorem Sys2Proof.Laws.Fits.eorImm (v : Sys2Proof.Byte) : Sys2Proof.Laws.Fits.Statement (.eorImm v) :=
  .of_row (opcode := 0x49#8) (k := .eor) (m := .immediate) rfl rfl rfl rfl rfl rfl
theorem Sys2Proof.Laws.Fits.eorZp (zp : Sys2Proof.Byte) : Sys2Proof.Laws.Fits.Statement (.eorZp zp) :=
  .of_row (opcode := 0x45#8) (k := .eor) (m := .zeroPage) rfl rfl rfl rfl rfl rfl
theorem Sys2Proof.Laws.Fits.eorZpX (zp : Sys2Proof.Byte) : Sys2Proof.Laws.Fits.Statement (.eorZpX zp) :=
  .of_row (opcode := 0x55#8) (k := .eor) (m := .zeroPageX) rfl rfl rfl rfl rfl rfl
theorem Sys2Proof.Laws.Fits.eorAbs (w : Sys2Proof.Addr) : Sys2Proof.Laws.Fits.Statement (.eorAbs w) :=
  .of_row (opcode := 0x4D#8) (k := .eor) (m := .absolute) rfl rfl rfl rfl rfl rfl
theorem Sys2Proof.Laws.Fits.eorAbsX (w : Sys2Proof.Addr) : Sys2Proof.Laws.Fits.Statement (.eorAbsX w) :=
  .of_row (opcode := 0x5D#8) (k := .eor) (m := .absoluteX) rfl rfl rfl rfl rfl rfl
theorem Sys2Proof.Laws.Fits.eorAbsY (w : Sys2Proof.Addr) : Sys2Proof.Laws.Fits.Statement (.eorAbsY w) :=
  .of_row (opcode := 0x59#8) (k := .eor) (m := .absoluteY) rfl rfl rfl rfl rfl rfl
theorem Sys2Proof.Laws.Fits.eorIndX (zp : Sys2Proof.Byte) : Sys2Proof.Laws.Fits.Statement (.eorIndX zp) :=
  .of_row (opcode := 0x41#8) (k := .eor) (m := .indirectX) rfl rfl rfl rfl rfl rfl
theorem Sys2Proof.Laws.Fits.eorIndY (zp : Sys2Proof.Byte) : Sys2Proof.Laws.Fits.Statement (.eorIndY zp) :=
  .of_row (opcode := 0x51#8) (k := .eor) (m := .indirectY) rfl rfl rfl rfl rfl rfl
theorem Sys2Proof.Laws.Fits.aslAcc : Sys2Proof.Laws.Fits.Statement (.aslAcc) :=
  .of_row (opcode := 0x0A#8) (k := .asl) (m := .accumulator) rfl rfl rfl rfl rfl rfl
theorem Sys2Proof.Laws.Fits.aslZp (zp : Sys2Proof.Byte) : Sys2Proof.Laws.Fits.Statement (.aslZp zp) :=
  .of_row (opcode := 0x06#8) (k := .asl) (m := .zeroPage) rfl rfl rfl rfl rfl rfl
theorem Sys2Proof.Laws.Fits.aslZpX (zp : Sys2Proof.Byte) : Sys2Proof.Laws.Fits.Statement (.aslZpX zp) :=
  .of_row (opcode := 0x16#8) (k := .asl) (m := .zeroPageX) rfl rfl rfl rfl rfl rfl
theorem Sys2Proof.Laws.Fits.aslAbs (w : Sys2Proof.Addr) : Sys2Proof.Laws.Fits.Statement (.aslAbs w) :=
  .of_row (opcode := 0x0E#8) (k := .asl) (m := .absolute) rfl rfl rfl rfl rfl rfl
theorem Sys2Proof.Laws.Fits.aslAbsX (w : Sys2Proof.Addr) : Sys2Proof.Laws.Fits.Statement (.aslAbsX w) :=
  .of_row (opcode := 0x1E#8) (k := .asl) (m := .absoluteX) rfl rfl rfl rfl rfl rfl
theorem Sys2Proof.Laws.Fits.lsrAcc : Sys2Proof.Laws.Fits.Statement (.lsrAcc) :=
  .of_row (opcode := 0x4A#8) (k := .lsr) (m := .accumulator) rfl rfl rfl rfl rfl rfl
theorem Sys2Proof.Laws.Fits.lsrZp (zp : Sys2Proof.Byte) : Sys2Proof.Laws.Fits.Statement (.lsrZp zp) :=
  .of_row (opcode := 0x46#8) (k := .lsr) (m := .zeroPage) rfl rfl rfl rfl rfl rfl
theorem Sys2Proof.Laws.Fits.lsrZpX (zp : Sys2Proof.Byte) : Sys2Proof.Laws.Fits.Statement (.lsrZpX zp) :=
  .of_row (opcode := 0x56#8) (k := .lsr) (m := .zeroPageX) rfl rfl rfl rfl rfl rfl
theorem Sys2Proof.Laws.Fits.lsrAbs (w : Sys2Proof.Addr) : Sys2Proof.Laws.Fits.Statement (.lsrAbs w) :=
  .of_row (opcode := 0x4E#8) (k := .lsr) (m := .absolute) rfl rfl rfl rfl rfl rfl
theorem Sys2Proof.Laws.Fits.lsrAbsX (w : Sys2Proof.Addr) : Sys2Proof.Laws.Fits.Statement (.lsrAbsX w) :=
  .of_row (opcode := 0x5E#8) (k := .lsr) (m := .absoluteX) rfl rfl rfl rfl rfl rfl
theorem Sys2Proof.Laws.Fits.rolAcc : Sys2Proof.Laws.Fits.Statement (.rolAcc) :=
  .of_row (opcode := 0x2A#8) (k := .rol) (m := .accumulator) rfl rfl rfl rfl rfl rfl
theorem Sys2Proof.Laws.Fits.rolZp (zp : Sys2Proof.Byte) : Sys2Proof.Laws.Fits.Statement (.rolZp zp) :=
  .of_row (opcode := 0x26#8) (k := .rol) (m := .zeroPage) rfl rfl rfl rfl rfl rfl
theorem Sys2Proof.Laws.Fits.rolZpX (zp : Sys2Proof.Byte) : Sys2Proof.Laws.Fits.Statement (.rolZpX zp) :=
  .of_row (opcode := 0x36#8) (k := .rol) (m := .zeroPageX) rfl rfl rfl rfl rfl rfl
theorem Sys2Proof.Laws.Fits.rolAbs (w : Sys2Proof.Addr) : Sys2Proof.Laws.Fits.Statement (.rolAbs w) :=
  .of_row (opcode := 0x2E#8) (k := .rol) (m := .absolute) rfl rfl rfl rfl rfl rfl
theorem Sys2Proof.Laws.Fits.rolAbsX (w : Sys2Proof.Addr) : Sys2Proof.Laws.Fits.Statement (.rolAbsX w) :=
  .of_row (opcode := 0x3E#8) (k := .rol) (m := .absoluteX) rfl rfl rfl rfl rfl rfl
theorem Sys2Proof.Laws.Fits.rorAcc : Sys2Proof.Laws.Fits.Statement (.rorAcc) :=
  .of_row (opcode := 0x6A#8) (k := .ror) (m := .accumulator) rfl rfl rfl rfl rfl rfl
theorem Sys2Proof.Laws.Fits.rorZp (zp : Sys2Proof.Byte) : Sys2Proof.Laws.Fits.Statement (.rorZp zp) :=
  .of_row (opcode := 0x66#8) (k := .ror) (m := .zeroPage) rfl rfl rfl rfl rfl rfl
theorem Sys2Proof.Laws.Fits.rorZpX (zp : Sys2Proof.Byte) : Sys2Proof.Laws.Fits.Statement (.rorZpX zp) :=
  .of_row (opcode := 0x76#8) (k := .ror) (m := .zeroPageX) rfl rfl rfl rfl rfl rfl
theorem Sys2Proof.Laws.Fits.rorAbs (w : Sys2Proof.Addr) : Sys2Proof.Laws.Fits.Statement (.rorAbs w) :=
  .of_row (opcode := 0x6E#8) (k := .ror) (m := .absolute) rfl rfl rfl rfl rfl rfl
theorem Sys2Proof.Laws.Fits.rorAbsX (w : Sys2Proof.Addr) : Sys2Proof.Laws.Fits.Statement (.rorAbsX w) :=
  .of_row (opcode := 0x7E#8) (k := .ror) (m := .absoluteX) rfl rfl rfl rfl rfl rfl
theorem Sys2Proof.Laws.Fits.incZp (zp : Sys2Proof.Byte) : Sys2Proof.Laws.Fits.Statement (.incZp zp) :=
  .of_row (opcode := 0xE6#8) (k := .inc) (m := .zeroPage) rfl rfl rfl rfl rfl rfl
theorem Sys2Proof.Laws.Fits.incZpX (zp : Sys2Proof.Byte) : Sys2Proof.Laws.Fits.Statement (.incZpX zp) :=
  .of_row (opcode := 0xF6#8) (k := .inc) (m := .zeroPageX) rfl rfl rfl rfl rfl rfl
theorem Sys2Proof.Laws.Fits.incAbs (w : Sys2Proof.Addr) : Sys2Proof.Laws.Fits.Statement (.incAbs w) :=
  .of_row (opcode := 0xEE#8) (k := .inc) (m := .absolute) rfl rfl rfl rfl rfl rfl
theorem Sys2Proof.Laws.Fits.incAbsX (w : Sys2Proof.Addr) : Sys2Proof.Laws.Fits.Statement (.incAbsX w) :=
  .of_row (opcode := 0xFE#8) (k := .inc) (m := .absoluteX) rfl rfl rfl rfl rfl rfl
theorem Sys2Proof.Laws.Fits.decZp (zp : Sys2Proof.Byte) : Sys2Proof.Laws.Fits.Statement (.decZp zp) :=
  .of_row (opcode := 0xC6#8) (k := .dec) (m := .zeroPage) rfl rfl rfl rfl rfl rfl
theorem Sys2Proof.Laws.Fits.decZpX (zp : Sys2Proof.Byte) : Sys2Proof.Laws.Fits.Statement (.decZpX zp) :=
  .of_row (opcode := 0xD6#8) (k := .dec) (m := .zeroPageX) rfl rfl rfl rfl rfl rfl
theorem Sys2Proof.Laws.Fits.decAbs (w : Sys2Proof.Addr) : Sys2Proof.Laws.Fits.Statement (.decAbs w) :=
  .of_row (opcode := 0xCE#8) (k := .dec) (m := .absolute) rfl rfl rfl rfl rfl rfl
theorem Sys2Proof.Laws.Fits.decAbsX (w : Sys2Proof.Addr) : Sys2Proof.Laws.Fits.Statement (.decAbsX w) :=
  .of_row (opcode := 0xDE#8) (k := .dec) (m := .absoluteX) rfl rfl rfl rfl rfl rfl
theorem Sys2Proof.Laws.Fits.inx : Sys2Proof.Laws.Fits.Statement (.inx) :=
  .of_row (opcode := 0xE8#8) (k := .inx) (m := .implied) rfl rfl rfl rfl rfl rfl
theorem Sys2Proof.Laws.Fits.iny : Sys2Proof.Laws.Fits.Statement (.iny) :=
  .of_row (opcode := 0xC8#8) (k := .iny) (m := .implied) rfl rfl rfl rfl rfl rfl
theorem Sys2Proof.Laws.Fits.dex : Sys2Proof.Laws.Fits.Statement (.dex) :=
  .of_row (opcode := 0xCA#8) (k := .dex) (m := .implied) rfl rfl rfl rfl rfl rfl
theorem Sys2Proof.Laws.Fits.dey : Sys2Proof.Laws.Fits.Statement (.dey) :=
  .of_row (opcode := 0x88#8) (k := .dey) (m := .implied) rfl rfl rfl rfl rfl rfl
theorem Sys2Proof.Laws.Fits.cmpImm (v : Sys2Proof.Byte) : Sys2Proof.Laws.Fits.Statement (.cmpImm v) :=
  .of_row (opcode := 0xC9#8) (k := .cmp) (m := .immediate) rfl rfl rfl rfl rfl rfl
theorem Sys2Proof.Laws.Fits.cmpZp (zp : Sys2Proof.Byte) : Sys2Proof.Laws.Fits.Statement (.cmpZp zp) :=
  .of_row (opcode := 0xC5#8) (k := .cmp) (m := .zeroPage) rfl rfl rfl rfl rfl rfl
theorem Sys2Proof.Laws.Fits.cmpZpX (zp : Sys2Proof.Byte) : Sys2Proof.Laws.Fits.Statement (.cmpZpX zp) :=
  .of_row (opcode := 0xD5#8) (k := .cmp) (m := .zeroPageX) rfl rfl rfl rfl rfl rfl
theorem Sys2Proof.Laws.Fits.cmpAbs (w : Sys2Proof.Addr) : Sys2Proof.Laws.Fits.Statement (.cmpAbs w) :=
  .of_row (opcode := 0xCD#8) (k := .cmp) (m := .absolute) rfl rfl rfl rfl rfl rfl
theorem Sys2Proof.Laws.Fits.cmpAbsX (w : Sys2Proof.Addr) : Sys2Proof.Laws.Fits.Statement (.cmpAbsX w) :=
  .of_row (opcode := 0xDD#8) (k := .cmp) (m := .absoluteX) rfl rfl rfl rfl rfl rfl
theorem Sys2Proof.Laws.Fits.cmpAbsY (w : Sys2Proof.Addr) : Sys2Proof.Laws.Fits.Statement (.cmpAbsY w) :=
  .of_row (opcode := 0xD9#8) (k := .cmp) (m := .absoluteY) rfl rfl rfl rfl rfl rfl
theorem Sys2Proof.Laws.Fits.cmpIndX (zp : Sys2Proof.Byte) : Sys2Proof.Laws.Fits.Statement (.cmpIndX zp) :=
  .of_row (opcode := 0xC1#8) (k := .cmp) (m := .indirectX) rfl rfl rfl rfl rfl rfl
theorem Sys2Proof.Laws.Fits.cmpIndY (zp : Sys2Proof.Byte) : Sys2Proof.Laws.Fits.Statement (.cmpIndY zp) :=
  .of_row (opcode := 0xD1#8) (k := .cmp) (m := .indirectY) rfl rfl rfl rfl rfl rfl
theorem Sys2Proof.Laws.Fits.cpxImm (v : Sys2Proof.Byte) : Sys2Proof.Laws.Fits.Statement (.cpxImm v) :=
  .of_row (opcode := 0xE0#8) (k := .cpx) (m := .immediate) rfl rfl rfl rfl rfl rfl
theorem Sys2Proof.Laws.Fits.cpxZp (zp : Sys2Proof.Byte) : Sys2Proof.Laws.Fits.Statement (.cpxZp zp) :=
  .of_row (opcode := 0xE4#8) (k := .cpx) (m := .zeroPage) rfl rfl rfl rfl rfl rfl
theorem Sys2Proof.Laws.Fits.cpxAbs (w : Sys2Proof.Addr) : Sys2Proof.Laws.Fits.Statement (.cpxAbs w) :=
  .of_row (opcode := 0xEC#8) (k := .cpx) (m := .absolute) rfl rfl rfl rfl rfl rfl
theorem Sys2Proof.Laws.Fits.cpyImm (v : Sys2Proof.Byte) : Sys2Proof.Laws.Fits.Statement (.cpyImm v) :=
  .of_row (opcode := 0xC0#8) (k := .cpy) (m := .immediate) rfl rfl rfl rfl rfl rfl
theorem Sys2Proof.Laws.Fits.cpyZp (zp : Sys2Proof.Byte) : Sys2Proof.Laws.Fits.Statement (.cpyZp zp) :=
  .of_row (opcode := 0xC4#8) (k := .cpy) (m := .zeroPage) rfl rfl rfl rfl rfl rfl
theorem Sys2Proof.Laws.Fits.cpyAbs (w : Sys2Proof.Addr) : Sys2Proof.Laws.Fits.Statement (.cpyAbs w) :=
  .of_row (opcode := 0xCC#8) (k := .cpy) (m := .absolute) rfl rfl rfl rfl rfl rfl
theorem Sys2Proof.Laws.Fits.bcc (d : Sys2Proof.Byte) : Sys2Proof.Laws.Fits.Statement (.bcc d) :=
  .of_row (opcode := 0x90#8) (k := .bcc) (m := .relative) rfl rfl rfl rfl rfl rfl
theorem Sys2Proof.Laws.Fits.bcs (d : Sys2Proof.Byte) : Sys2Proof.Laws.Fits.Statement (.bcs d) :=
  .of_row (opcode := 0xB0#8) (k := .bcs) (m := .relative) rfl rfl rfl rfl rfl rfl
theorem Sys2Proof.Laws.Fits.beq (d : Sys2Proof.Byte) : Sys2Proof.Laws.Fits.Statement (.beq d) :=
  .of_row (opcode := 0xF0#8) (k := .beq) (m := .relative) rfl rfl rfl rfl rfl rfl
theorem Sys2Proof.Laws.Fits.bne (d : Sys2Proof.Byte) : Sys2Proof.Laws.Fits.Statement (.bne d) :=
  .of_row (opcode := 0xD0#8) (k := .bne) (m := .relative) rfl rfl rfl rfl rfl rfl
theorem Sys2Proof.Laws.Fits.bmi (d : Sys2Proof.Byte) : Sys2Proof.Laws.Fits.Statement (.bmi d) :=
  .of_row (opcode := 0x30#8) (k := .bmi) (m := .relative) rfl rfl rfl rfl rfl rfl
theorem Sys2Proof.Laws.Fits.bpl (d : Sys2Proof.Byte) : Sys2Proof.Laws.Fits.Statement (.bpl d) :=
  .of_row (opcode := 0x10#8) (k := .bpl) (m := .relative) rfl rfl rfl rfl rfl rfl
theorem Sys2Proof.Laws.Fits.bvc (d : Sys2Proof.Byte) : Sys2Proof.Laws.Fits.Statement (.bvc d) :=
  .of_row (opcode := 0x50#8) (k := .bvc) (m := .relative) rfl rfl rfl rfl rfl rfl
theorem Sys2Proof.Laws.Fits.bvs (d : Sys2Proof.Byte) : Sys2Proof.Laws.Fits.Statement (.bvs d) :=
  .of_row (opcode := 0x70#8) (k := .bvs) (m := .relative) rfl rfl rfl rfl rfl rfl
theorem Sys2Proof.Laws.Fits.jmpAbs (w : Sys2Proof.Addr) : Sys2Proof.Laws.Fits.Statement (.jmpAbs w) :=
  .of_row (opcode := 0x4C#8) (k := .jmp) (m := .absolute) rfl rfl rfl rfl rfl rfl
theorem Sys2Proof.Laws.Fits.jmpInd (w : Sys2Proof.Addr) : Sys2Proof.Laws.Fits.Statement (.jmpInd w) :=
  .of_row (opcode := 0x6C#8) (k := .jmp) (m := .indirect) rfl rfl rfl rfl rfl rfl
theorem Sys2Proof.Laws.Fits.jsr (w : Sys2Proof.Addr) : Sys2Proof.Laws.Fits.Statement (.jsr w) :=
  .of_row (opcode := 0x20#8) (k := .jsr) (m := .absolute) rfl rfl rfl rfl rfl rfl
theorem Sys2Proof.Laws.Fits.rts : Sys2Proof.Laws.Fits.Statement (.rts) :=
  .of_row (opcode := 0x60#8) (k := .rts) (m := .implied) rfl rfl rfl rfl rfl rfl
theorem Sys2Proof.Laws.Fits.rti : Sys2Proof.Laws.Fits.Statement (.rti) :=
  .of_row (opcode := 0x40#8) (k := .rti) (m := .implied) rfl rfl rfl rfl rfl rfl
theorem Sys2Proof.Laws.Fits.pha : Sys2Proof.Laws.Fits.Statement (.pha) :=
  .of_row (opcode := 0x48#8) (k := .pha) (m := .implied) rfl rfl rfl rfl rfl rfl
theorem Sys2Proof.Laws.Fits.php : Sys2Proof.Laws.Fits.Statement (.php) :=
  .of_row (opcode := 0x08#8) (k := .php) (m := .implied) rfl rfl rfl rfl rfl rfl
theorem Sys2Proof.Laws.Fits.pla : Sys2Proof.Laws.Fits.Statement (.pla) :=
  .of_row (opcode := 0x68#8) (k := .pla) (m := .implied) rfl rfl rfl rfl rfl rfl
theorem Sys2Proof.Laws.Fits.plp : Sys2Proof.Laws.Fits.Statement (.plp) :=
  .of_row (opcode := 0x28#8) (k := .plp) (m := .implied) rfl rfl rfl rfl rfl rfl
theorem Sys2Proof.Laws.Fits.clc : Sys2Proof.Laws.Fits.Statement (.clc) :=
  .of_row (opcode := 0x18#8) (k := .clc) (m := .implied) rfl rfl rfl rfl rfl rfl
theorem Sys2Proof.Laws.Fits.sec : Sys2Proof.Laws.Fits.Statement (.sec) :=
  .of_row (opcode := 0x38#8) (k := .sec) (m := .implied) rfl rfl rfl rfl rfl rfl
theorem Sys2Proof.Laws.Fits.cli : Sys2Proof.Laws.Fits.Statement (.cli) :=
  .of_row (opcode := 0x58#8) (k := .cli) (m := .implied) rfl rfl rfl rfl rfl rfl
theorem Sys2Proof.Laws.Fits.sei : Sys2Proof.Laws.Fits.Statement (.sei) :=
  .of_row (opcode := 0x78#8) (k := .sei) (m := .implied) rfl rfl rfl rfl rfl rfl
theorem Sys2Proof.Laws.Fits.cld : Sys2Proof.Laws.Fits.Statement (.cld) :=
  .of_row (opcode := 0xD8#8) (k := .cld) (m := .implied) rfl rfl rfl rfl rfl rfl
theorem Sys2Proof.Laws.Fits.sed : Sys2Proof.Laws.Fits.Statement (.sed) :=
  .of_row (opcode := 0xF8#8) (k := .sed) (m := .implied) rfl rfl rfl rfl rfl rfl
theorem Sys2Proof.Laws.Fits.clv : Sys2Proof.Laws.Fits.Statement (.clv) :=
  .of_row (opcode := 0xB8#8) (k := .clv) (m := .implied) rfl rfl rfl rfl rfl rfl
theorem Sys2Proof.Laws.Fits.bitZp (zp : Sys2Proof.Byte) : Sys2Proof.Laws.Fits.Statement (.bitZp zp) :=
  .of_row (opcode := 0x24#8) (k := .bit) (m := .zeroPage) rfl rfl rfl rfl rfl rfl
theorem Sys2Proof.Laws.Fits.bitAbs (w : Sys2Proof.Addr) : Sys2Proof.Laws.Fits.Statement (.bitAbs w) :=
  .of_row (opcode := 0x2C#8) (k := .bit) (m := .absolute) rfl rfl rfl rfl rfl rfl
theorem Sys2Proof.Laws.Fits.brk : Sys2Proof.Laws.Fits.Statement (.brk) :=
  .of_row (opcode := 0x00#8) (k := .brk) (m := .implied) rfl rfl rfl rfl rfl rfl
theorem Sys2Proof.Laws.Fits.nop : Sys2Proof.Laws.Fits.Statement (.nop) :=
  .of_row (opcode := 0xEA#8) (k := .nop) (m := .implied) rfl rfl rfl rfl rfl rfl
end

