-- ==== Sys2Proof/Laws/Safety.lean ====
section
/-! SUPPORT. The small lemmas of the terms claims are made in: the state a fault leaves, two states that differ in one
flag, and what `unlessFaulted` answers. -/

namespace Sys2Proof.Machine

/-! ### The state a fault leaves -/

@[simp] theorem Fault.after_unsupportedOpcode (opcode : Byte) (addr : Addr) (t : State) :
    (Fault.unsupportedOpcode opcode addr t).after = t := rfl

@[simp] theorem Fault.after_unsupportedAddressingMode (mode : AddrMode) (t : State) :
    (Fault.unsupportedAddressingMode mode t).after = t := rfl

/-- Raising a report is a fault that leaves the faulted state. -/
theorem raise_eq_fault (r : FaultReport) (s : State) : ∃ f, raise r s = .fault f ∧ f.after = s.faulted r := by
  cases r with
  | unsupportedOpcode opcode addr => exact ⟨_, rfl, rfl⟩
  | unsupportedAddressingMode mode => exact ⟨_, rfl, rfl⟩

/-- The faulted state has its report, so the invariant asks for canonical memory only. -/
theorem State.inv_faulted {s : State} (h : Memory.wf s.mem = true) (r : FaultReport) : (s.faulted r).Inv :=
  ⟨h, iff_of_true rfl rfl⟩

/-! ### States that differ in one flag -/

theorem State.eq_of_setP_eq {s t : State} {p q r : Flags} (h : s.setP p = t.setP q) (hr : t.p = r) : t = s.setP r := by
  subst hr
  exact (congrArg (fun u : State => u.setP t.p) h).symm

/-- The other state is this one with its own I. -/
theorem SameButI.eq_setP {s t : State} (h : SameButI s t) : t = s.setP { s.p with i := t.p.i } := by
  have hp : ({ s.p with i := false } : Flags) = { t.p with i := false } := congrArg State.p h
  exact State.eq_of_setP_eq h (congrArg (fun p : Flags => { p with i := t.p.i }) hp).symm

/-- The other state is this one with its own D. -/
theorem SameButD.eq_setP {s t : State} (h : SameButD s t) : t = s.setP { s.p with d := t.p.d } := by
  have hp : ({ s.p with d := false } : Flags) = { t.p with d := false } := congrArg State.p h
  exact State.eq_of_setP_eq h (congrArg (fun p : Flags => { p with d := t.p.d }) hp).symm

/-! ### Host operations on a Faulted state -/

theorem unlessFaulted_of_faulted {s : State} (h : s.mode = .faulted) (k : Host.Outcome State Fault Refusal) :
    unlessFaulted s k = .refused .hostOnFaulted := by
  cases s
  cases h
  rfl

theorem unlessFaulted_of_not_faulted {s : State} (h : s.mode ≠ .faulted) (k : Host.Outcome State Fault Refusal) :
    unlessFaulted s k = k := by
  unfold unlessFaulted
  split
  · next hm => exact absurd hm h
  · rfl

end Sys2Proof.Machine
end

