-- ==== Sys2Proof/Laws/Step.lean ====
section
/-! SUPPORT. What one step can do, said once. -/

namespace Sys2Proof.Machine

/-- A step that goes on ran the instruction at PC, in a Running state. -/
theorem step_eq_next {s t : State} (h : step s = .next t) :
    s.mode = .running ∧ ∃ i, s.fetchInstr = some i ∧ exec i s.fetched = .next t := by
  unfold step at h
  split at h
  · next hm =>
    split at h
    · next i hi => exact ⟨hm, i, hi, h⟩
    · simp [State.raiseUnsupportedOpcode, raise] at h
  · cases h

/-- In a Running state a step runs the instruction at PC, or faults on its opcode byte. -/
theorem step_of_running {s : State} (h : s.mode = .running) :
    step s = (match s.fetchInstr with
      | some i => exec i s.fetched
      | none => s.raiseUnsupportedOpcode) := by
  cases s
  cases h
  rfl

/-- In any other state no step is enabled. -/
theorem step_of_not_running {s : State} (h : s.mode ≠ .running) : step s = .refused (.stepNotEnabled s.mode) := by
  unfold step
  cases hm : s.mode <;> simp_all

end Sys2Proof.Machine
end

