-- ==== Sys2Proof/Tests/Slice0.lean ====
section
/-! SUPPORT. The model's own tests: the refusals of WellFormed, the decoding of words written out from the spec, one
step per vector of 95_test_vectors.md, and a witness for the hypotheses of each statement. -/

namespace Sys2Proof.Tests
open Sys2Proof Sys2Proof.Machine

/-! ### Well-formedness: each check refuses -/

/-- R109, R203: STA has no Immediate mode. -/
theorem test_wf_refuses_store_immediate :
    Descriptor.wf { opcode := 0x89#8, kind := .sta, mode := .immediate, length := 2, baseCycles := 2 } = false := by decide

/-- R109, R174: LDX is indexed by Y in page zero, not by X. -/
theorem test_wf_refuses_ldx_zeroPageX :
    Descriptor.wf { opcode := 0xB6#8, kind := .ldx, mode := .zeroPageX, length := 2, baseCycles := 4 } = false := by decide

/-- R109: INC has no Accumulator mode on this machine. -/
theorem test_wf_refuses_inc_accumulator :
    Descriptor.wf { opcode := 0x1A#8, kind := .inc, mode := .accumulator, length := 1, baseCycles := 2 } = false := by decide

/-- R104, R115: BRK is one byte long. -/
theorem test_wf_refuses_two_byte_brk :
    Descriptor.wf { opcode := 0x00#8, kind := .brk, mode := .implied, length := 2, baseCycles := 7 } = false := by decide

/-- R104: an Absolute instruction is three bytes long. -/
theorem test_wf_refuses_two_byte_absolute :
    Descriptor.wf { opcode := 0xAD#8, kind := .lda, mode := .absolute, length := 2, baseCycles := 4 } = false := by decide

/-- R109, R122: every row of the table is well-formed, and there are 151. -/
theorem test_table_is_wellFormed : opcodeTable.all Descriptor.wf = true ∧ opcodeTable.length = 151 := ⟨rfl, rfl⟩

/-- R106, R109: no two rows have one opcode, and the table is in the order of the opcodes. -/
theorem test_table_opcodes_rise : (opcodeTable.map fun d => d.opcode.toNat).Pairwise (· < ·) := by decide +kernel

/-- `build` refuses an operand of a mode its mnemonic does not have. -/
theorem test_build_refuses_store_immediate : build .sta (.immediate 0x05#8) = none := rfl

/-! ### Decoding: every constructor, from the words of R109 -/

/-- R109, R100 to R103. -/
theorem test_decode_load :
    decode [0xA9#8, 0x5C#8] = .ok (.ldaImm 0x5C#8, []) ∧
    decode [0xA5#8, 0x5C#8] = .ok (.ldaZp 0x5C#8, []) ∧
    decode [0xB5#8, 0x5C#8] = .ok (.ldaZpX 0x5C#8, []) ∧
    decode [0xAD#8, 0x34#8, 0x12#8] = .ok (.ldaAbs 0x1234#16, []) ∧
    decode [0xBD#8, 0x34#8, 0x12#8] = .ok (.ldaAbsX 0x1234#16, []) ∧
    decode [0xB9#8, 0x34#8, 0x12#8] = .ok (.ldaAbsY 0x1234#16, []) ∧
    decode [0xA1#8, 0x5C#8] = .ok (.ldaIndX 0x5C#8, []) ∧
    decode [0xB1#8, 0x5C#8] = .ok (.ldaIndY 0x5C#8, []) ∧
    decode [0xA2#8, 0x5C#8] = .ok (.ldxImm 0x5C#8, []) ∧
    decode [0xA6#8, 0x5C#8] = .ok (.ldxZp 0x5C#8, []) ∧
    decode [0xB6#8, 0x5C#8] = .ok (.ldxZpY 0x5C#8, []) ∧
    decode [0xAE#8, 0x34#8, 0x12#8] = .ok (.ldxAbs 0x1234#16, []) ∧
    decode [0xBE#8, 0x34#8, 0x12#8] = .ok (.ldxAbsY 0x1234#16, []) ∧
    decode [0xA0#8, 0x5C#8] = .ok (.ldyImm 0x5C#8, []) ∧
    decode [0xA4#8, 0x5C#8] = .ok (.ldyZp 0x5C#8, []) ∧
    decode [0xB4#8, 0x5C#8] = .ok (.ldyZpX 0x5C#8, []) ∧
    decode [0xAC#8, 0x34#8, 0x12#8] = .ok (.ldyAbs 0x1234#16, []) ∧
    decode [0xBC#8, 0x34#8, 0x12#8] = .ok (.ldyAbsX 0x1234#16, []) :=
  ⟨rfl, rfl, rfl, rfl, rfl, rfl, rfl, rfl, rfl, rfl, rfl, rfl, rfl, rfl, rfl, rfl, rfl, rfl⟩

/-- R109, R100 to R103. -/
theorem test_decode_store :
    decode [0x85#8, 0x5C#8] = .ok (.staZp 0x5C#8, []) ∧
    decode [0x95#8, 0x5C#8] = .ok (.staZpX 0x5C#8, []) ∧
    decode [0x8D#8, 0x34#8, 0x12#8] = .ok (.staAbs 0x1234#16, []) ∧
    decode [0x9D#8, 0x34#8, 0x12#8] = .ok (.staAbsX 0x1234#16, []) ∧
    decode [0x99#8, 0x34#8, 0x12#8] = .ok (.staAbsY 0x1234#16, []) ∧
    decode [0x81#8, 0x5C#8] = .ok (.staIndX 0x5C#8, []) ∧
    decode [0x91#8, 0x5C#8] = .ok (.staIndY 0x5C#8, []) ∧
    decode [0x86#8, 0x5C#8] = .ok (.stxZp 0x5C#8, []) ∧
    decode [0x96#8, 0x5C#8] = .ok (.stxZpY 0x5C#8, []) ∧
    decode [0x8E#8, 0x34#8, 0x12#8] = .ok (.stxAbs 0x1234#16, []) ∧
    decode [0x84#8, 0x5C#8] = .ok (.styZp 0x5C#8, []) ∧
    decode [0x94#8, 0x5C#8] = .ok (.styZpX 0x5C#8, []) ∧
    decode [0x8C#8, 0x34#8, 0x12#8] = .ok (.styAbs 0x1234#16, []) :=
  ⟨rfl, rfl, rfl, rfl, rfl, rfl, rfl, rfl, rfl, rfl, rfl, rfl, rfl⟩

/-- R109, R100 to R103. -/
theorem test_decode_transfer :
    decode [0xAA#8] = .ok (.tax, []) ∧
    decode [0x8A#8] = .ok (.txa, []) ∧
    decode [0xA8#8] = .ok (.tay, []) ∧
    decode [0x98#8] = .ok (.tya, []) ∧
    decode [0xBA#8] = .ok (.tsx, []) ∧
    decode [0x9A#8] = .ok (.txs, []) :=
  ⟨rfl, rfl, rfl, rfl, rfl, rfl⟩

/-- R109, R100 to R103. -/
theorem test_decode_arithmetic :
    decode [0x69#8, 0x5C#8] = .ok (.adcImm 0x5C#8, []) ∧
    decode [0x65#8, 0x5C#8] = .ok (.adcZp 0x5C#8, []) ∧
    decode [0x75#8, 0x5C#8] = .ok (.adcZpX 0x5C#8, []) ∧
    decode [0x6D#8, 0x34#8, 0x12#8] = .ok (.adcAbs 0x1234#16, []) ∧
    decode [0x7D#8, 0x34#8, 0x12#8] = .ok (.adcAbsX 0x1234#16, []) ∧
    decode [0x79#8, 0x34#8, 0x12#8] = .ok (.adcAbsY 0x1234#16, []) ∧
    decode [0x61#8, 0x5C#8] = .ok (.adcIndX 0x5C#8, []) ∧
    decode [0x71#8, 0x5C#8] = .ok (.adcIndY 0x5C#8, []) ∧
    decode [0xE9#8, 0x5C#8] = .ok (.sbcImm 0x5C#8, []) ∧
    decode [0xE5#8, 0x5C#8] = .ok (.sbcZp 0x5C#8, []) ∧
    decode [0xF5#8, 0x5C#8] = .ok (.sbcZpX 0x5C#8, []) ∧
    decode [0xED#8, 0x34#8, 0x12#8] = .ok (.sbcAbs 0x1234#16, []) ∧
    decode [0xFD#8, 0x34#8, 0x12#8] = .ok (.sbcAbsX 0x1234#16, []) ∧
    decode [0xF9#8, 0x34#8, 0x12#8] = .ok (.sbcAbsY 0x1234#16, []) ∧
    decode [0xE1#8, 0x5C#8] = .ok (.sbcIndX 0x5C#8, []) ∧
    decode [0xF1#8, 0x5C#8] = .ok (.sbcIndY 0x5C#8, []) :=
  ⟨rfl, rfl, rfl, rfl, rfl, rfl, rfl, rfl, rfl, rfl, rfl, rfl, rfl, rfl, rfl, rfl⟩

/-- R109, R100 to R103. -/
theorem test_decode_logic :
    decode [0x29#8, 0x5C#8] = .ok (.andImm 0x5C#8, []) ∧
    decode [0x25#8, 0x5C#8] = .ok (.andZp 0x5C#8, []) ∧
    decode [0x35#8, 0x5C#8] = .ok (.andZpX 0x5C#8, []) ∧
    decode [0x2D#8, 0x34#8, 0x12#8] = .ok (.andAbs 0x1234#16, []) ∧
    decode [0x3D#8, 0x34#8, 0x12#8] = .ok (.andAbsX 0x1234#16, []) ∧
    decode [0x39#8, 0x34#8, 0x12#8] = .ok (.andAbsY 0x1234#16, []) ∧
    decode [0x21#8, 0x5C#8] = .ok (.andIndX 0x5C#8, []) ∧
    decode [0x31#8, 0x5C#8] = .ok (.andIndY 0x5C#8, []) ∧
    decode [0x09#8, 0x5C#8] = .ok (.oraImm 0x5C#8, []) ∧
    decode [0x05#8, 0x5C#8] = .ok (.oraZp 0x5C#8, []) ∧
    decode [0x15#8, 0x5C#8] = .ok (.oraZpX 0x5C#8, []) ∧
    decode [0x0D#8, 0x34#8, 0x12#8] = .ok (.oraAbs 0x1234#16, []) ∧
    decode [0x1D#8, 0x34#8, 0x12#8] = .ok (.oraAbsX 0x1234#16, []) ∧
    decode [0x19#8, 0x34#8, 0x12#8] = .ok (.oraAbsY 0x1234#16, []) ∧
    decode [0x01#8, 0x5C#8] = .ok (.oraIndX 0x5C#8, []) ∧
    decode [0x11#8, 0x5C#8] = .ok (.oraIndY 0x5C#8, []) ∧
    decode [0x49#8, 0x5C#8] = .ok (.eorImm 0x5C#8, []) ∧
    decode [0x45#8, 0x5C#8] = .ok (.eorZp 0x5C#8, []) ∧
    decode [0x55#8, 0x5C#8] = .ok (.eorZpX 0x5C#8, []) ∧
    decode [0x4D#8, 0x34#8, 0x12#8] = .ok (.eorAbs 0x1234#16, []) ∧
    decode [0x5D#8, 0x34#8, 0x12#8] = .ok (.eorAbsX 0x1234#16, []) ∧
    decode [0x59#8, 0x34#8, 0x12#8] = .ok (.eorAbsY 0x1234#16, []) ∧
    decode [0x41#8, 0x5C#8] = .ok (.eorIndX 0x5C#8, []) ∧
    decode [0x51#8, 0x5C#8] = .ok (.eorIndY 0x5C#8, []) :=
  ⟨rfl, rfl, rfl, rfl, rfl, rfl, rfl, rfl, rfl, rfl, rfl, rfl, rfl, rfl, rfl, rfl, rfl, rfl, rfl, rfl, rfl, rfl, rfl, rfl⟩

/-- R109, R100 to R103. -/
theorem test_decode_shift :
    decode [0x0A#8] = .ok (.aslAcc, []) ∧
    decode [0x06#8, 0x5C#8] = .ok (.aslZp 0x5C#8, []) ∧
    decode [0x16#8, 0x5C#8] = .ok (.aslZpX 0x5C#8, []) ∧
    decode [0x0E#8, 0x34#8, 0x12#8] = .ok (.aslAbs 0x1234#16, []) ∧
    decode [0x1E#8, 0x34#8, 0x12#8] = .ok (.aslAbsX 0x1234#16, []) ∧
    decode [0x4A#8] = .ok (.lsrAcc, []) ∧
    decode [0x46#8, 0x5C#8] = .ok (.lsrZp 0x5C#8, []) ∧
    decode [0x56#8, 0x5C#8] = .ok (.lsrZpX 0x5C#8, []) ∧
    decode [0x4E#8, 0x34#8, 0x12#8] = .ok (.lsrAbs 0x1234#16, []) ∧
    decode [0x5E#8, 0x34#8, 0x12#8] = .ok (.lsrAbsX 0x1234#16, []) ∧
    decode [0x2A#8] = .ok (.rolAcc, []) ∧
    decode [0x26#8, 0x5C#8] = .ok (.rolZp 0x5C#8, []) ∧
    decode [0x36#8, 0x5C#8] = .ok (.rolZpX 0x5C#8, []) ∧
    decode [0x2E#8, 0x34#8, 0x12#8] = .ok (.rolAbs 0x1234#16, []) ∧
    decode [0x3E#8, 0x34#8, 0x12#8] = .ok (.rolAbsX 0x1234#16, []) ∧
    decode [0x6A#8] = .ok (.rorAcc, []) ∧
    decode [0x66#8, 0x5C#8] = .ok (.rorZp 0x5C#8, []) ∧
    decode [0x76#8, 0x5C#8] = .ok (.rorZpX 0x5C#8, []) ∧
    decode [0x6E#8, 0x34#8, 0x12#8] = .ok (.rorAbs 0x1234#16, []) ∧
    decode [0x7E#8, 0x34#8, 0x12#8] = .ok (.rorAbsX 0x1234#16, []) :=
  ⟨rfl, rfl, rfl, rfl, rfl, rfl, rfl, rfl, rfl, rfl, rfl, rfl, rfl, rfl, rfl, rfl, rfl, rfl, rfl, rfl⟩

/-- R109, R100 to R103. -/
theorem test_decode_incdec :
    decode [0xE6#8, 0x5C#8] = .ok (.incZp 0x5C#8, []) ∧
    decode [0xF6#8, 0x5C#8] = .ok (.incZpX 0x5C#8, []) ∧
    decode [0xEE#8, 0x34#8, 0x12#8] = .ok (.incAbs 0x1234#16, []) ∧
    decode [0xFE#8, 0x34#8, 0x12#8] = .ok (.incAbsX 0x1234#16, []) ∧
    decode [0xC6#8, 0x5C#8] = .ok (.decZp 0x5C#8, []) ∧
    decode [0xD6#8, 0x5C#8] = .ok (.decZpX 0x5C#8, []) ∧
    decode [0xCE#8, 0x34#8, 0x12#8] = .ok (.decAbs 0x1234#16, []) ∧
    decode [0xDE#8, 0x34#8, 0x12#8] = .ok (.decAbsX 0x1234#16, []) ∧
    decode [0xE8#8] = .ok (.inx, []) ∧
    decode [0xC8#8] = .ok (.iny, []) ∧
    decode [0xCA#8] = .ok (.dex, []) ∧
    decode [0x88#8] = .ok (.dey, []) :=
  ⟨rfl, rfl, rfl, rfl, rfl, rfl, rfl, rfl, rfl, rfl, rfl, rfl⟩

/-- R109, R100 to R103. -/
theorem test_decode_compare :
    decode [0xC9#8, 0x5C#8] = .ok (.cmpImm 0x5C#8, []) ∧
    decode [0xC5#8, 0x5C#8] = .ok (.cmpZp 0x5C#8, []) ∧
    decode [0xD5#8, 0x5C#8] = .ok (.cmpZpX 0x5C#8, []) ∧
    decode [0xCD#8, 0x34#8, 0x12#8] = .ok (.cmpAbs 0x1234#16, []) ∧
    decode [0xDD#8, 0x34#8, 0x12#8] = .ok (.cmpAbsX 0x1234#16, []) ∧
    decode [0xD9#8, 0x34#8, 0x12#8] = .ok (.cmpAbsY 0x1234#16, []) ∧
    decode [0xC1#8, 0x5C#8] = .ok (.cmpIndX 0x5C#8, []) ∧
    decode [0xD1#8, 0x5C#8] = .ok (.cmpIndY 0x5C#8, []) ∧
    decode [0xE0#8, 0x5C#8] = .ok (.cpxImm 0x5C#8, []) ∧
    decode [0xE4#8, 0x5C#8] = .ok (.cpxZp 0x5C#8, []) ∧
    decode [0xEC#8, 0x34#8, 0x12#8] = .ok (.cpxAbs 0x1234#16, []) ∧
    decode [0xC0#8, 0x5C#8] = .ok (.cpyImm 0x5C#8, []) ∧
    decode [0xC4#8, 0x5C#8] = .ok (.cpyZp 0x5C#8, []) ∧
    decode [0xCC#8, 0x34#8, 0x12#8] = .ok (.cpyAbs 0x1234#16, []) :=
  ⟨rfl, rfl, rfl, rfl, rfl, rfl, rfl, rfl, rfl, rfl, rfl, rfl, rfl, rfl⟩

/-- R109, R100 to R103. -/
theorem test_decode_branch :
    decode [0x90#8, 0x5C#8] = .ok (.bcc 0x5C#8, []) ∧
    decode [0xB0#8, 0x5C#8] = .ok (.bcs 0x5C#8, []) ∧
    decode [0xF0#8, 0x5C#8] = .ok (.beq 0x5C#8, []) ∧
    decode [0xD0#8, 0x5C#8] = .ok (.bne 0x5C#8, []) ∧
    decode [0x30#8, 0x5C#8] = .ok (.bmi 0x5C#8, []) ∧
    decode [0x10#8, 0x5C#8] = .ok (.bpl 0x5C#8, []) ∧
    decode [0x50#8, 0x5C#8] = .ok (.bvc 0x5C#8, []) ∧
    decode [0x70#8, 0x5C#8] = .ok (.bvs 0x5C#8, []) :=
  ⟨rfl, rfl, rfl, rfl, rfl, rfl, rfl, rfl⟩

/-- R109, R100 to R103. -/
theorem test_decode_jump :
    decode [0x4C#8, 0x34#8, 0x12#8] = .ok (.jmpAbs 0x1234#16, []) ∧
    decode [0x6C#8, 0x34#8, 0x12#8] = .ok (.jmpInd 0x1234#16, []) ∧
    decode [0x20#8, 0x34#8, 0x12#8] = .ok (.jsr 0x1234#16, []) ∧
    decode [0x60#8] = .ok (.rts, []) ∧
    decode [0x40#8] = .ok (.rti, []) :=
  ⟨rfl, rfl, rfl, rfl, rfl⟩

/-- R109, R100 to R103. -/
theorem test_decode_stack :
    decode [0x48#8] = .ok (.pha, []) ∧
    decode [0x08#8] = .ok (.php, []) ∧
    decode [0x68#8] = .ok (.pla, []) ∧
    decode [0x28#8] = .ok (.plp, []) :=
  ⟨rfl, rfl, rfl, rfl⟩

/-- R109, R100 to R103. -/
theorem test_decode_flag :
    decode [0x18#8] = .ok (.clc, []) ∧
    decode [0x38#8] = .ok (.sec, []) ∧
    decode [0x58#8] = .ok (.cli, []) ∧
    decode [0x78#8] = .ok (.sei, []) ∧
    decode [0xD8#8] = .ok (.cld, []) ∧
    decode [0xF8#8] = .ok (.sed, []) ∧
    decode [0xB8#8] = .ok (.clv, []) :=
  ⟨rfl, rfl, rfl, rfl, rfl, rfl, rfl⟩

/-- R109, R100 to R103. -/
theorem test_decode_other :
    decode [0x24#8, 0x5C#8] = .ok (.bitZp 0x5C#8, []) ∧
    decode [0x2C#8, 0x34#8, 0x12#8] = .ok (.bitAbs 0x1234#16, []) ∧
    decode [0x00#8] = .ok (.brk, []) ∧
    decode [0xEA#8] = .ok (.nop, []) :=
  ⟨rfl, rfl, rfl, rfl⟩

/-- Bit by bit: LDA #nn is 1010 1001, STA nnnn,X is 1001 1101, ROR A is 0110 1010, JSR is 0010 0000. -/
theorem test_decode_bits :
    decode [0b10101001#8, 0b00000101#8] = .ok (.ldaImm 0b00000101#8, []) ∧
    decode [0b10011101#8, 0b00000001#8, 0b10000000#8] = .ok (.staAbsX 0b1000000000000001#16, []) ∧
    decode [0b01101010#8] = .ok (.rorAcc, []) ∧
    decode [0b00100000#8, 0b11111111#8, 0b00000000#8] = .ok (.jsr 0b0000000011111111#16, []) :=
  ⟨rfl, rfl, rfl, rfl⟩

/-- R120, R121, R142: an opcode with no row, and no operand bytes to read. -/
theorem test_decode_refuses :
    decode [0x02#8, 0x00#8, 0x00#8] = .error (.unsupportedOpcode 0x02#8) ∧
    decode [0xFF#8] = .error (.unsupportedOpcode 0xFF#8) ∧ decode [0xAD#8, 0x34#8] = .error (.truncated 0xAD#8) ∧
    decode [] = .error .noBytes :=
  ⟨rfl, rfl, rfl, rfl⟩

/-- The host's numbering of a word: byte 0 lowest, the bits above `nbits` zero. -/
theorem test_decodeTableWord :
    decodeTableWord 24 0x1234AD = some (.ldaAbs 0x1234#16) ∧ decodeTableWord 8 0x1234AD = some (.ldaAbs 0x0000#16) ∧
    decodeTableWord 8 0x02 = none :=
  ⟨rfl, rfl, rfl⟩

/-! ### One step: vectors of 95_test_vectors.md -/

/-- The default start state of the vectors (section 0 there): `load([])` and `reset`, with PC at `pc`. -/
def base (pc : Addr) : State := { State.reset with pc := pc, mem := [(0xFFFD, 0x80#8)] }

/-- Bytes placed at given addresses. -/
def poke (s : State) (cells : List (Addr × Byte)) : State := cells.foldl (fun t c => t.write c.1 c.2) s

/-- A status byte as flags. -/
def flags (v : Byte) : Flags := Flags.ofHostByte v

/-- A, X, Y, P as a byte, SP and PC after a step that goes on. -/
def regs : Host.Outcome State Fault Refusal → Option (Byte × Byte × Byte × Byte × Byte × Addr)
  | .next s => some (s.a, s.x, s.y, s.p.toByte, s.sp, s.pc)
  | _ => none

/-- The bytes at given addresses after a step that goes on. -/
def bytesAt (o : Host.Outcome State Fault Refusal) (addrs : List Addr) : Option (List Byte) :=
  match o with
  | .next s => some (addrs.map s.read)
  | _ => none

/-- The mode after a step that goes on. -/
def modeOf : Host.Outcome State Fault Refusal → Option RunMode
  | .next s => some s.mode
  | _ => none

/-- V3: R173. -/
theorem test_lda_zeroPageX_wraps :
    regs (step (poke { base 0x8000#16 with x := 0x20#8 } [(0x8000#16, 0xB5#8), (0x8001#16, 0xF0#8), (0x0010#16,
        0x44#8)])) = some (0x44#8, 0x20#8, 0x00#8, 0x20#8, 0xFF#8, 0x8002#16) := by decide

/-- V4: R174. -/
theorem test_ldx_zeroPageY_wraps :
    regs (step (poke { base 0x8000#16 with y := 0x02#8 } [(0x8000#16, 0xB6#8), (0x8001#16, 0xFF#8), (0x0001#16,
        0x55#8)])) = some (0x00#8, 0x55#8, 0x02#8, 0x20#8, 0xFF#8, 0x8002#16) := by decide

/-- V5: R175. -/
theorem test_lda_absolute :
    regs (step (poke (base 0x8000#16) [(0x8000#16, 0xAD#8), (0x8001#16, 0x34#8), (0x8002#16, 0x12#8), (0x1234#16,
        0x80#8)])) = some (0x80#8, 0x00#8, 0x00#8, 0xA0#8, 0xFF#8, 0x8003#16) := by decide

/-- V7: R176. -/
theorem test_lda_absoluteX_wraps :
    regs (step (poke { base 0x8000#16 with x := 0x02#8 } [(0x8000#16, 0xBD#8), (0x8001#16, 0xFF#8), (0x8002#16,
        0xFF#8), (0x0001#16, 0x02#8)])) = some (0x02#8, 0x02#8, 0x00#8, 0x20#8, 0xFF#8, 0x8003#16) := by decide

/-- V8: R177. -/
theorem test_lda_absoluteY :
    regs (step (poke { base 0x8000#16 with y := 0xFF#8 } [(0x8000#16, 0xB9#8), (0x8001#16, 0x00#8), (0x8002#16,
        0x20#8), (0x20FF#16, 0x03#8)])) = some (0x03#8, 0x00#8, 0xFF#8, 0x20#8, 0xFF#8, 0x8003#16) := by decide

/-- V10: R178. -/
theorem test_lda_indirectX_pointer_wraps :
    regs (step (poke { base 0x8000#16 with x := 0x01#8 } [(0x8000#16, 0xA1#8), (0x8001#16, 0xFE#8), (0x0000#16,
        0x31#8), (0x00FF#16, 0x00#8), (0x3100#16, 0x67#8)])) = some (0x67#8, 0x01#8, 0x00#8, 0x20#8, 0xFF#8, 0x8002#16) := by decide

/-- V131: R178. -/
theorem test_lda_indirectX_pointer_leaves_page_zero :
    regs (step (poke { base 0x8000#16 with x := 0x01#8, cfg := { Params.defaults with zpPtrWrap := false } }
        [(0x8000#16, 0xA1#8), (0x8001#16, 0xFE#8), (0x0000#16, 0x31#8), (0x00FF#16, 0x00#8), (0x0100#16, 0x40#8),
        (0x3100#16, 0x67#8), (0x4000#16, 0x77#8)])) = some (0x77#8, 0x01#8, 0x00#8, 0x20#8, 0xFF#8, 0x8002#16) := by decide

/-- V12: R179. -/
theorem test_lda_indirectY_pointer_wraps :
    regs (step (poke { base 0x8000#16 with y := 0x00#8 } [(0x8000#16, 0xB1#8), (0x8001#16, 0xFF#8), (0x0000#16,
        0x32#8), (0x00FF#16, 0x00#8), (0x3200#16, 0x69#8)])) = some (0x69#8, 0x00#8, 0x00#8, 0x20#8, 0xFF#8, 0x8002#16) := by decide

/-- V13: R179. -/
theorem test_lda_indirectY_target_wraps :
    regs (step (poke { base 0x8000#16 with y := 0x01#8 } [(0x8000#16, 0xB1#8), (0x8001#16, 0x40#8), (0x0000#16,
        0x6A#8), (0x0040#16, 0xFF#8), (0x0041#16, 0xFF#8)])) = some (0x6A#8, 0x00#8, 0x01#8, 0x20#8, 0xFF#8, 0x8002#16) := by decide

/-- V14: R200. -/
theorem test_lda_immediate :
    regs (step (poke { base 0x8000#16 with a := 0x55#8, p := flags 0xA0#8 } [(0x8000#16, 0xA9#8), (0x8001#16,
        0x00#8)])) = some (0x00#8, 0x00#8, 0x00#8, 0x22#8, 0xFF#8, 0x8002#16) := by decide

/-- V16: R201. -/
theorem test_ldx_immediate :
    regs (step (poke { base 0x8000#16 with x := 0x01#8 } [(0x8000#16, 0xA2#8), (0x8001#16, 0x00#8)])) = some
        (0x00#8, 0x00#8, 0x00#8, 0x22#8, 0xFF#8, 0x8002#16) := by decide

/-- V17: R202. -/
theorem test_ldy_immediate :
    regs (step (poke (base 0x8000#16) [(0x8000#16, 0xA0#8), (0x8001#16, 0xFF#8)])) = some (0x00#8, 0x00#8, 0xFF#8,
        0xA0#8, 0xFF#8, 0x8002#16) := by decide

/-- V18: R203. -/
theorem test_sta_sets_no_flag :
    regs (step (poke { base 0x8000#16 with a := 0x00#8 } [(0x8000#16, 0x85#8), (0x8001#16, 0x10#8)])) = some
        (0x00#8, 0x00#8, 0x00#8, 0x20#8, 0xFF#8, 0x8002#16) := by decide

/-- V19: R203. -/
theorem test_sta_absoluteY :
    regs (step (poke { base 0x8000#16 with a := 0xAB#8, y := 0x01#8 } [(0x8000#16, 0x99#8), (0x8001#16, 0xFF#8),
        (0x8002#16, 0x01#8)])) = some (0xAB#8, 0x00#8, 0x01#8, 0x20#8, 0xFF#8, 0x8003#16) ∧
    bytesAt (step (poke { base 0x8000#16 with a := 0xAB#8, y := 0x01#8 } [(0x8000#16, 0x99#8), (0x8001#16, 0xFF#8),
        (0x8002#16, 0x01#8)])) [0x0200#16] =
      some [0xAB#8] := by decide

/-- V20: R204. -/
theorem test_stx_zeroPageY :
    regs (step (poke { base 0x8000#16 with x := 0x77#8, y := 0x02#8 } [(0x8000#16, 0x96#8), (0x8001#16, 0xFF#8)]))
        = some (0x00#8, 0x77#8, 0x02#8, 0x20#8, 0xFF#8, 0x8002#16) ∧
    bytesAt (step (poke { base 0x8000#16 with x := 0x77#8, y := 0x02#8 } [(0x8000#16, 0x96#8), (0x8001#16,
        0xFF#8)])) [0x0001#16] =
      some [0x77#8] := by decide

/-- V21: R205. -/
theorem test_sty_top_of_memory :
    regs (step (poke { base 0x8000#16 with y := 0x5A#8 } [(0x8000#16, 0x8C#8), (0x8001#16, 0xFF#8), (0x8002#16,
        0xFF#8)])) = some (0x00#8, 0x00#8, 0x5A#8, 0x20#8, 0xFF#8, 0x8003#16) ∧
    bytesAt (step (poke { base 0x8000#16 with y := 0x5A#8 } [(0x8000#16, 0x8C#8), (0x8001#16, 0xFF#8), (0x8002#16,
        0xFF#8)])) [0xFFFF#16] =
      some [0x5A#8] := by decide

/-- V22: R206. -/
theorem test_tax :
    regs (step (poke { base 0x8000#16 with a := 0x00#8, x := 0x12#8 } [(0x8000#16, 0xAA#8)])) = some (0x00#8,
        0x00#8, 0x00#8, 0x22#8, 0xFF#8, 0x8001#16) := by decide

/-- V23: R207. -/
theorem test_txa :
    regs (step (poke { base 0x8000#16 with x := 0xFF#8 } [(0x8000#16, 0x8A#8)])) = some (0xFF#8, 0xFF#8, 0x00#8,
        0xA0#8, 0xFF#8, 0x8001#16) := by decide

/-- V24: R208. -/
theorem test_tay :
    regs (step (poke { base 0x8000#16 with a := 0x80#8 } [(0x8000#16, 0xA8#8)])) = some (0x80#8, 0x00#8, 0x80#8,
        0xA0#8, 0xFF#8, 0x8001#16) := by decide

/-- V25: R209. -/
theorem test_tya :
    regs (step (poke { base 0x8000#16 with a := 0x33#8, y := 0x00#8 } [(0x8000#16, 0x98#8)])) = some (0x00#8,
        0x00#8, 0x00#8, 0x22#8, 0xFF#8, 0x8001#16) := by decide

/-- V26: R210. -/
theorem test_tsx :
    regs (step (poke { base 0x8000#16 with sp := 0x00#8 } [(0x8000#16, 0xBA#8)])) = some (0x00#8, 0x00#8, 0x00#8,
        0x22#8, 0x00#8, 0x8001#16) := by decide

/-- V27: R211. -/
theorem test_txs_sets_no_flag :
    regs (step (poke { base 0x8000#16 with x := 0x80#8, p := flags 0x22#8 } [(0x8000#16, 0x9A#8)])) = some (0x00#8,
        0x80#8, 0x00#8, 0x22#8, 0x80#8, 0x8001#16) := by decide

/-- V32: R231. -/
theorem test_adc_overflow_and_carry :
    regs (step (poke { base 0x8000#16 with a := 0x80#8 } [(0x8000#16, 0x69#8), (0x8001#16, 0x80#8)])) = some
        (0x00#8, 0x00#8, 0x00#8, 0x63#8, 0xFF#8, 0x8002#16) := by decide

/-- V133: R236. -/
theorem test_adc_decimal_refused :
    step (poke { base 0x8000#16 with a := 0x09#8, p := flags 0x28#8, cfg := { Params.defaults with decimalPolicy :=
        .refuse } } [(0x8000#16, 0x69#8), (0x8001#16, 0x01#8)]) = .refused .decimalMode := rfl

/-- V42: R232. -/
theorem test_sbc_overflow :
    regs (step (poke { base 0x8000#16 with a := 0x7F#8, p := flags 0x21#8 } [(0x8000#16, 0xE9#8), (0x8001#16,
        0xFF#8)])) = some (0x80#8, 0x00#8, 0x00#8, 0xE0#8, 0xFF#8, 0x8002#16) := by decide

/-- V134: R236. -/
theorem test_sbc_decimal_refused :
    step (poke { base 0x8000#16 with a := 0x09#8, p := flags 0x29#8, cfg := { Params.defaults with decimalPolicy :=
        .refuse } } [(0x8000#16, 0xE9#8), (0x8001#16, 0x01#8)]) = .refused .decimalMode := rfl

/-- V46: R233. -/
theorem test_and_immediate :
    regs (step (poke { base 0x8000#16 with a := 0xF0#8, p := flags 0xE1#8 } [(0x8000#16, 0x29#8), (0x8001#16,
        0x0F#8)])) = some (0x00#8, 0x00#8, 0x00#8, 0x63#8, 0xFF#8, 0x8002#16) := by decide

/-- V49: R234. -/
theorem test_ora_zeroPage :
    regs (step (poke { base 0x8000#16 with a := 0x01#8 } [(0x8000#16, 0x05#8), (0x8001#16, 0x10#8), (0x0010#16,
        0x80#8)])) = some (0x81#8, 0x00#8, 0x00#8, 0xA0#8, 0xFF#8, 0x8002#16) := by decide

/-- V51: R235. -/
theorem test_eor_immediate :
    regs (step (poke { base 0x8000#16 with a := 0x8F#8 } [(0x8000#16, 0x49#8), (0x8001#16, 0x0F#8)])) = some
        (0x80#8, 0x00#8, 0x00#8, 0xA0#8, 0xFF#8, 0x8002#16) := by decide

/-- V52: R251. -/
theorem test_asl_accumulator :
    regs (step (poke { base 0x8000#16 with a := 0x80#8 } [(0x8000#16, 0x0A#8)])) = some (0x00#8, 0x00#8, 0x00#8,
        0x23#8, 0xFF#8, 0x8001#16) := by decide

/-- V54: R251. -/
theorem test_asl_zeroPage :
    regs (step (poke (base 0x8000#16) [(0x8000#16, 0x06#8), (0x8001#16, 0x10#8), (0x0010#16, 0xFF#8)])) = some
        (0x00#8, 0x00#8, 0x00#8, 0xA1#8, 0xFF#8, 0x8002#16) ∧
    bytesAt (step (poke (base 0x8000#16) [(0x8000#16, 0x06#8), (0x8001#16, 0x10#8), (0x0010#16, 0xFF#8)])) [0x0010#16] =
      some [0xFE#8] := by decide

/-- V55: R252. -/
theorem test_lsr_accumulator :
    regs (step (poke { base 0x8000#16 with a := 0x01#8 } [(0x8000#16, 0x4A#8)])) = some (0x00#8, 0x00#8, 0x00#8,
        0x23#8, 0xFF#8, 0x8001#16) := by decide

/-- V56: R252. -/
theorem test_lsr_absolute :
    regs (step (poke { base 0x8000#16 with p := flags 0xA1#8 } [(0x8000#16, 0x4E#8), (0x8001#16, 0x00#8),
        (0x8002#16, 0x02#8), (0x0200#16, 0x80#8)])) = some (0x00#8, 0x00#8, 0x00#8, 0x20#8, 0xFF#8, 0x8003#16) ∧
    bytesAt (step (poke { base 0x8000#16 with p := flags 0xA1#8 } [(0x8000#16, 0x4E#8), (0x8001#16, 0x00#8),
        (0x8002#16, 0x02#8), (0x0200#16, 0x80#8)])) [0x0200#16] =
      some [0x40#8] := by decide

/-- V58: R253. -/
theorem test_rol_accumulator :
    regs (step (poke { base 0x8000#16 with a := 0x00#8, p := flags 0x21#8 } [(0x8000#16, 0x2A#8)])) = some (0x01#8,
        0x00#8, 0x00#8, 0x20#8, 0xFF#8, 0x8001#16) := by decide

/-- V59: R253. -/
theorem test_rol_absoluteX :
    regs (step (poke { base 0x8000#16 with x := 0x01#8, p := flags 0x21#8 } [(0x8000#16, 0x3E#8), (0x8001#16,
        0xFF#8), (0x8002#16, 0x02#8), (0x0300#16, 0x7F#8)])) = some (0x00#8, 0x01#8, 0x00#8, 0xA0#8, 0xFF#8, 0x8003#16) ∧
    bytesAt (step (poke { base 0x8000#16 with x := 0x01#8, p := flags 0x21#8 } [(0x8000#16, 0x3E#8), (0x8001#16,
        0xFF#8), (0x8002#16, 0x02#8), (0x0300#16, 0x7F#8)])) [0x0300#16] =
      some [0xFF#8] := by decide

/-- V61: R254. -/
theorem test_ror_accumulator :
    regs (step (poke { base 0x8000#16 with a := 0x00#8, p := flags 0x21#8 } [(0x8000#16, 0x6A#8)])) = some (0x80#8,
        0x00#8, 0x00#8, 0xA0#8, 0xFF#8, 0x8001#16) := by decide

/-- V62: R254. -/
theorem test_ror_zeroPageX :
    regs (step (poke { base 0x8000#16 with x := 0x01#8, p := flags 0x21#8 } [(0x8000#16, 0x76#8), (0x8001#16,
        0xFF#8), (0x0000#16, 0x02#8)])) = some (0x00#8, 0x01#8, 0x00#8, 0xA0#8, 0xFF#8, 0x8002#16) ∧
    bytesAt (step (poke { base 0x8000#16 with x := 0x01#8, p := flags 0x21#8 } [(0x8000#16, 0x76#8), (0x8001#16,
        0xFF#8), (0x0000#16, 0x02#8)])) [0x0000#16] =
      some [0x81#8] := by decide

/-- V63: R255. -/
theorem test_inc_zeroPage :
    regs (step (poke (base 0x8000#16) [(0x8000#16, 0xE6#8), (0x8001#16, 0x10#8), (0x0010#16, 0xFF#8)])) = some
        (0x00#8, 0x00#8, 0x00#8, 0x22#8, 0xFF#8, 0x8002#16) ∧
    bytesAt (step (poke (base 0x8000#16) [(0x8000#16, 0xE6#8), (0x8001#16, 0x10#8), (0x0010#16, 0xFF#8)])) [0x0010#16] =
      some [0x00#8] := by decide

/-- V64: R255. -/
theorem test_inc_absoluteX :
    regs (step (poke { base 0x8000#16 with x := 0x05#8 } [(0x8000#16, 0xFE#8), (0x8001#16, 0x00#8), (0x8002#16,
        0x02#8), (0x0205#16, 0x7F#8)])) = some (0x00#8, 0x05#8, 0x00#8, 0xA0#8, 0xFF#8, 0x8003#16) ∧
    bytesAt (step (poke { base 0x8000#16 with x := 0x05#8 } [(0x8000#16, 0xFE#8), (0x8001#16, 0x00#8), (0x8002#16,
        0x02#8), (0x0205#16, 0x7F#8)])) [0x0205#16] =
      some [0x80#8] := by decide

/-- V65: R256. -/
theorem test_dec_zeroPage :
    regs (step (poke (base 0x8000#16) [(0x8000#16, 0xC6#8), (0x8001#16, 0x10#8), (0x0010#16, 0x00#8)])) = some
        (0x00#8, 0x00#8, 0x00#8, 0xA0#8, 0xFF#8, 0x8002#16) ∧
    bytesAt (step (poke (base 0x8000#16) [(0x8000#16, 0xC6#8), (0x8001#16, 0x10#8), (0x0010#16, 0x00#8)])) [0x0010#16] =
      some [0xFF#8] := by decide

/-- V67: R257. -/
theorem test_inx :
    regs (step (poke { base 0x8000#16 with x := 0xFF#8 } [(0x8000#16, 0xE8#8)])) = some (0x00#8, 0x00#8, 0x00#8,
        0x22#8, 0xFF#8, 0x8001#16) := by decide

/-- V68: R258. -/
theorem test_iny :
    regs (step (poke { base 0x8000#16 with y := 0x7F#8 } [(0x8000#16, 0xC8#8)])) = some (0x00#8, 0x00#8, 0x80#8,
        0xA0#8, 0xFF#8, 0x8001#16) := by decide

/-- V69: R259. -/
theorem test_dex :
    regs (step (poke { base 0x8000#16 with x := 0x00#8 } [(0x8000#16, 0xCA#8)])) = some (0x00#8, 0xFF#8, 0x00#8,
        0xA0#8, 0xFF#8, 0x8001#16) := by decide

/-- V70: R260. -/
theorem test_dey :
    regs (step (poke { base 0x8000#16 with y := 0x01#8 } [(0x8000#16, 0x88#8)])) = some (0x00#8, 0x00#8, 0x00#8,
        0x22#8, 0xFF#8, 0x8001#16) := by decide

/-- V74: R262. -/
theorem test_cmp_borrow_without_negative :
    regs (step (poke { base 0x8000#16 with a := 0x01#8 } [(0x8000#16, 0xC9#8), (0x8001#16, 0x82#8)])) = some
        (0x01#8, 0x00#8, 0x00#8, 0x20#8, 0xFF#8, 0x8002#16) := by decide

/-- V75: R262. -/
theorem test_cmp_keeps_overflow :
    regs (step (poke { base 0x8000#16 with a := 0x10#8, p := flags 0x60#8 } [(0x8000#16, 0xC9#8), (0x8001#16,
        0x20#8)])) = some (0x10#8, 0x00#8, 0x00#8, 0xE0#8, 0xFF#8, 0x8002#16) := by decide

/-- V76: R263. -/
theorem test_cpx_immediate :
    regs (step (poke { base 0x8000#16 with x := 0x05#8 } [(0x8000#16, 0xE0#8), (0x8001#16, 0x05#8)])) = some
        (0x00#8, 0x05#8, 0x00#8, 0x23#8, 0xFF#8, 0x8002#16) := by decide

/-- V77: R263. -/
theorem test_cpx_zeroPage :
    regs (step (poke { base 0x8000#16 with x := 0x05#8 } [(0x8000#16, 0xE4#8), (0x8001#16, 0x10#8), (0x0010#16,
        0x06#8)])) = some (0x00#8, 0x05#8, 0x00#8, 0xA0#8, 0xFF#8, 0x8002#16) := by decide

/-- V78: R264. -/
theorem test_cpy_immediate :
    regs (step (poke { base 0x8000#16 with y := 0x80#8 } [(0x8000#16, 0xC0#8), (0x8001#16, 0x7F#8)])) = some
        (0x00#8, 0x00#8, 0x80#8, 0x21#8, 0xFF#8, 0x8002#16) := by decide

/-- V80: R281. -/
theorem test_bcc_taken :
    regs (step (poke (base 0x8000#16) [(0x8000#16, 0x90#8), (0x8001#16, 0x04#8)])) = some (0x00#8, 0x00#8, 0x00#8,
        0x20#8, 0xFF#8, 0x8006#16) := by decide

/-- V81: R281. -/
theorem test_bcc_not_taken :
    regs (step (poke { base 0x8000#16 with p := flags 0x21#8 } [(0x8000#16, 0x90#8), (0x8001#16, 0x04#8)])) = some
        (0x00#8, 0x00#8, 0x00#8, 0x21#8, 0xFF#8, 0x8002#16) := by decide

/-- V82: R282. -/
theorem test_bcs :
    regs (step (poke { base 0x8010#16 with p := flags 0x21#8 } [(0x8010#16, 0xB0#8), (0x8011#16, 0xF0#8)])) = some
        (0x00#8, 0x00#8, 0x00#8, 0x21#8, 0xFF#8, 0x8002#16) := by decide

/-- V83: R283. -/
theorem test_beq :
    regs (step (poke { base 0x8000#16 with p := flags 0x22#8 } [(0x8000#16, 0xF0#8), (0x8001#16, 0x7F#8)])) = some
        (0x00#8, 0x00#8, 0x00#8, 0x22#8, 0xFF#8, 0x8081#16) := by decide

/-- V84: R284. -/
theorem test_bne_backwards :
    regs (step (poke (base 0x8005#16) [(0x8005#16, 0xD0#8), (0x8006#16, 0xF9#8)])) = some (0x00#8, 0x00#8, 0x00#8,
        0x20#8, 0xFF#8, 0x8000#16) := by decide

/-- V85: R284. -/
theorem test_bne_itself :
    regs (step (poke (base 0x8005#16) [(0x8005#16, 0xD0#8), (0x8006#16, 0xFE#8)])) = some (0x00#8, 0x00#8, 0x00#8,
        0x20#8, 0xFF#8, 0x8005#16) := by decide

/-- V86: R285. -/
theorem test_bmi_wraps_below_zero :
    regs (step (poke { base 0x0000#16 with p := flags 0xA0#8 } [(0x0000#16, 0x30#8), (0x0001#16, 0x80#8)])) = some
        (0x00#8, 0x00#8, 0x00#8, 0xA0#8, 0xFF#8, 0xFF82#16) := by decide

/-- V87: R286. -/
theorem test_bpl_wraps_above_top :
    regs (step (poke (base 0xFFF0#16) [(0xFFF0#16, 0x10#8), (0xFFF1#16, 0x20#8)])) = some (0x00#8, 0x00#8, 0x00#8,
        0x20#8, 0xFF#8, 0x0012#16) := by decide

/-- V88: R286. -/
theorem test_bpl_not_taken :
    regs (step (poke { base 0x8000#16 with p := flags 0xA0#8 } [(0x8000#16, 0x10#8), (0x8001#16, 0x20#8)])) = some
        (0x00#8, 0x00#8, 0x00#8, 0xA0#8, 0xFF#8, 0x8002#16) := by decide

/-- V89: R287. -/
theorem test_bvc :
    regs (step (poke (base 0x8000#16) [(0x8000#16, 0x50#8), (0x8001#16, 0x00#8)])) = some (0x00#8, 0x00#8, 0x00#8,
        0x20#8, 0xFF#8, 0x8002#16) := by decide

/-- V90: R288. -/
theorem test_bvs :
    regs (step (poke { base 0x8000#16 with p := flags 0x60#8 } [(0x8000#16, 0x70#8), (0x8001#16, 0x10#8)])) = some
        (0x00#8, 0x00#8, 0x00#8, 0x60#8, 0xFF#8, 0x8012#16) := by decide

/-- V91: R288. -/
theorem test_bvs_not_taken :
    regs (step (poke (base 0x8000#16) [(0x8000#16, 0x70#8), (0x8001#16, 0x10#8)])) = some (0x00#8, 0x00#8, 0x00#8,
        0x20#8, 0xFF#8, 0x8002#16) := by decide

/-- V93: R289. -/
theorem test_jmp_absolute :
    regs (step (poke (base 0x8000#16) [(0x8000#16, 0x4C#8), (0x8001#16, 0x00#8), (0x8002#16, 0x90#8)])) = some
        (0x00#8, 0x00#8, 0x00#8, 0x20#8, 0xFF#8, 0x9000#16) := by decide

/-- V95: R289. -/
theorem test_jmp_indirect_in_page :
    regs (step (poke (base 0x8000#16) [(0x8000#16, 0x6C#8), (0x8001#16, 0xFF#8), (0x8002#16, 0x02#8), (0x0200#16,
        0x12#8), (0x02FF#16, 0x34#8), (0x0300#16, 0x56#8)])) = some (0x00#8, 0x00#8, 0x00#8, 0x20#8, 0xFF#8, 0x1234#16) := by decide

/-- V96: R289. -/
theorem test_jmp_indirect_next_page :
    regs (step (poke { base 0x8000#16 with cfg := { Params.defaults with jmpIndPageWrap := false } } [(0x8000#16,
        0x6C#8), (0x8001#16, 0xFF#8), (0x8002#16, 0x02#8), (0x0200#16, 0x12#8), (0x02FF#16, 0x34#8), (0x0300#16,
        0x56#8)])) = some (0x00#8, 0x00#8, 0x00#8, 0x20#8, 0xFF#8, 0x5634#16) := by decide

/-- V97: R290. -/
theorem test_jsr :
    regs (step (poke (base 0x8000#16) [(0x8000#16, 0x20#8), (0x8001#16, 0x00#8), (0x8002#16, 0x90#8)])) = some
        (0x00#8, 0x00#8, 0x00#8, 0x20#8, 0xFD#8, 0x9000#16) ∧
    bytesAt (step (poke (base 0x8000#16) [(0x8000#16, 0x20#8), (0x8001#16, 0x00#8), (0x8002#16, 0x90#8)]))
        [0x01FE#16, 0x01FF#16] =
      some [0x02#8, 0x80#8] := by decide

/-- V98: R290. -/
theorem test_jsr_stack_wraps :
    regs (step (poke { base 0x8000#16 with sp := 0x00#8 } [(0x8000#16, 0x20#8), (0x8001#16, 0x00#8), (0x8002#16,
        0x90#8)])) = some (0x00#8, 0x00#8, 0x00#8, 0x20#8, 0xFE#8, 0x9000#16) ∧
    bytesAt (step (poke { base 0x8000#16 with sp := 0x00#8 } [(0x8000#16, 0x20#8), (0x8001#16, 0x00#8), (0x8002#16,
        0x90#8)])) [0x0100#16, 0x01FF#16] =
      some [0x80#8, 0x02#8] := by decide

/-- V99: R291. -/
theorem test_rts :
    regs (step (poke { base 0x8000#16 with sp := 0xFD#8 } [(0x8000#16, 0x60#8), (0x01FE#16, 0x02#8), (0x01FF#16,
        0x80#8)])) = some (0x00#8, 0x00#8, 0x00#8, 0x20#8, 0xFF#8, 0x8003#16) := by decide

/-- V101: R291. -/
theorem test_rts_stack_wraps :
    regs (step (poke { base 0x8000#16 with sp := 0xFF#8 } [(0x8000#16, 0x60#8), (0x0100#16, 0x10#8), (0x0101#16,
        0x20#8)])) = some (0x00#8, 0x00#8, 0x00#8, 0x20#8, 0x01#8, 0x2011#16) := by decide

/-- V102: R292. -/
theorem test_rti :
    regs (step (poke { base 0x8000#16 with sp := 0xFC#8 } [(0x8000#16, 0x40#8), (0x01FD#16, 0xC3#8), (0x01FE#16,
        0x00#8), (0x01FF#16, 0x90#8)])) = some (0x00#8, 0x00#8, 0x00#8, 0xE3#8, 0xFF#8, 0x9000#16) := by decide

/-- V103: R292. -/
theorem test_rti_bits_4_and_5 :
    regs (step (poke { base 0x8000#16 with sp := 0xFC#8 } [(0x8000#16, 0x40#8), (0x01FD#16, 0xFF#8), (0x01FE#16,
        0x34#8), (0x01FF#16, 0x12#8)])) = some (0x00#8, 0x00#8, 0x00#8, 0xEF#8, 0xFF#8, 0x1234#16) := by decide

/-- V105: R310. -/
theorem test_pha_stack_wraps :
    regs (step (poke { base 0x8000#16 with a := 0x42#8, sp := 0x00#8 } [(0x8000#16, 0x48#8)])) = some (0x42#8,
        0x00#8, 0x00#8, 0x20#8, 0xFF#8, 0x8001#16) ∧
    bytesAt (step (poke { base 0x8000#16 with a := 0x42#8, sp := 0x00#8 } [(0x8000#16, 0x48#8)])) [0x0100#16] =
      some [0x42#8] := by decide

/-- V106: R311. -/
theorem test_php_sets_bits_4_and_5 :
    regs (step (poke { base 0x8000#16 with p := flags 0x21#8 } [(0x8000#16, 0x08#8)])) = some (0x00#8, 0x00#8,
        0x00#8, 0x21#8, 0xFE#8, 0x8001#16) ∧
    bytesAt (step (poke { base 0x8000#16 with p := flags 0x21#8 } [(0x8000#16, 0x08#8)])) [0x01FF#16] =
      some [0x31#8] := by decide

/-- V109: R312. -/
theorem test_pla :
    regs (step (poke { base 0x8000#16 with sp := 0xFF#8 } [(0x8000#16, 0x68#8), (0x0100#16, 0x80#8)])) = some
        (0x80#8, 0x00#8, 0x00#8, 0xA0#8, 0x00#8, 0x8001#16) := by decide

/-- V110: R313. -/
theorem test_plp_all_ones :
    regs (step (poke { base 0x8000#16 with sp := 0xFE#8 } [(0x8000#16, 0x28#8), (0x01FF#16, 0xFF#8)])) = some
        (0x00#8, 0x00#8, 0x00#8, 0xEF#8, 0xFF#8, 0x8001#16) := by decide

/-- V111: R313. -/
theorem test_plp_all_zeros :
    regs (step (poke { base 0x8000#16 with sp := 0xFE#8, p := flags 0xFF#8 } [(0x8000#16, 0x28#8), (0x01FF#16,
        0x00#8)])) = some (0x00#8, 0x00#8, 0x00#8, 0x20#8, 0xFF#8, 0x8001#16) := by decide

/-- V112: R314. -/
theorem test_clc :
    regs (step (poke { base 0x8000#16 with p := flags 0x21#8 } [(0x8000#16, 0x18#8)])) = some (0x00#8, 0x00#8,
        0x00#8, 0x20#8, 0xFF#8, 0x8001#16) := by decide

/-- V113: R315. -/
theorem test_sec :
    regs (step (poke (base 0x8000#16) [(0x8000#16, 0x38#8)])) = some (0x00#8, 0x00#8, 0x00#8, 0x21#8, 0xFF#8, 0x8001#16) := by decide

/-- V114: R316. -/
theorem test_cli :
    regs (step (poke { base 0x8000#16 with p := flags 0x24#8 } [(0x8000#16, 0x58#8)])) = some (0x00#8, 0x00#8,
        0x00#8, 0x20#8, 0xFF#8, 0x8001#16) := by decide

/-- V115: R317. -/
theorem test_sei :
    regs (step (poke (base 0x8000#16) [(0x8000#16, 0x78#8)])) = some (0x00#8, 0x00#8, 0x00#8, 0x24#8, 0xFF#8, 0x8001#16) := by decide

/-- V116: R318. -/
theorem test_cld :
    regs (step (poke { base 0x8000#16 with p := flags 0x28#8 } [(0x8000#16, 0xD8#8)])) = some (0x00#8, 0x00#8,
        0x00#8, 0x20#8, 0xFF#8, 0x8001#16) := by decide

/-- V117: R319. -/
theorem test_sed :
    regs (step (poke (base 0x8000#16) [(0x8000#16, 0xF8#8)])) = some (0x00#8, 0x00#8, 0x00#8, 0x28#8, 0xFF#8, 0x8001#16) := by decide

/-- V118: R320. -/
theorem test_clv :
    regs (step (poke { base 0x8000#16 with p := flags 0x60#8 } [(0x8000#16, 0xB8#8)])) = some (0x00#8, 0x00#8,
        0x00#8, 0x20#8, 0xFF#8, 0x8001#16) := by decide

/-- V119: R321. -/
theorem test_bit_zeroPage :
    regs (step (poke { base 0x8000#16 with a := 0x01#8 } [(0x8000#16, 0x24#8), (0x8001#16, 0x10#8), (0x0010#16,
        0xC0#8)])) = some (0x01#8, 0x00#8, 0x00#8, 0xE2#8, 0xFF#8, 0x8002#16) := by decide

/-- V120: R321. -/
theorem test_bit_absolute :
    regs (step (poke { base 0x8000#16 with a := 0xFF#8, p := flags 0xE3#8 } [(0x8000#16, 0x2C#8), (0x8001#16,
        0x00#8), (0x8002#16, 0x02#8), (0x0200#16, 0x01#8)])) = some (0xFF#8, 0x00#8, 0x00#8, 0x21#8, 0xFF#8, 0x8003#16) := by decide

/-- V123: R322. -/
theorem test_brk_stack_wraps :
    regs (step (poke { base 0x8000#16 with sp := 0x01#8, p := flags 0xEB#8 } [(0x8000#16, 0x00#8)])) = some
        (0x00#8, 0x00#8, 0x00#8, 0xFB#8, 0xFE#8, 0x8001#16) ∧
    bytesAt (step (poke { base 0x8000#16 with sp := 0x01#8, p := flags 0xEB#8 } [(0x8000#16, 0x00#8)])) [0x0100#16,
        0x0101#16, 0x01FF#16] =
      some [0x02#8, 0x80#8, 0xFB#8] ∧
    modeOf (step (poke { base 0x8000#16 with sp := 0x01#8, p := flags 0xEB#8 } [(0x8000#16, 0x00#8)])) = some .halted := by decide

/-- V124: R322. -/
theorem test_brk_sets_i :
    regs (step (poke { base 0x8000#16 with cfg := { Params.defaults with brkSetsI := true } } [(0x8000#16,
        0x00#8)])) = some (0x00#8, 0x00#8, 0x00#8, 0x34#8, 0xFC#8, 0x8001#16) ∧
    bytesAt (step (poke { base 0x8000#16 with cfg := { Params.defaults with brkSetsI := true } } [(0x8000#16,
        0x00#8)])) [0x01FD#16, 0x01FE#16, 0x01FF#16] =
      some [0x30#8, 0x02#8, 0x80#8] ∧
    modeOf (step (poke { base 0x8000#16 with cfg := { Params.defaults with brkSetsI := true } } [(0x8000#16,
        0x00#8)])) = some .halted := by decide

/-- V126: R323. -/
theorem test_nop :
    regs (step (poke { base 0x8000#16 with a := 0x12#8, p := flags 0xE3#8 } [(0x8000#16, 0xEA#8)])) = some (0x12#8,
        0x00#8, 0x00#8, 0xE3#8, 0xFF#8, 0x8001#16) := by decide

/-- V130: R153. -/
theorem test_fetch_wraps :
    regs (step (poke (base 0xFFFE#16) [(0xFFFE#16, 0xAD#8), (0xFFFF#16, 0x10#8), (0x0000#16, 0x00#8), (0x0010#16,
        0x5C#8)])) = some (0x5C#8, 0x00#8, 0x00#8, 0x20#8, 0xFF#8, 0x0001#16) := by decide

/-- V127: R341, R340. -/
theorem test_unsupported_opcode :
    (match step (poke (base 0x8000#16) [(0x8000#16, 0x02#8)]) with
     | .fault (.unsupportedOpcode b k t) => some (b, k, t.pc, t.mode, t.fault)
     | _ => none) =
      some (0x02#8, 0x8000#16, 0x8001#16, .faulted, some (.unsupportedOpcode 0x02#8 0x8000#16)) := by decide

/-- R57, R371, R372, vector H2: the state after reset is `reset` of a created state. -/
theorem test_reset : hostReset (State.create Params.defaults) = .next State.reset := rfl

/-- The word is stored where the next step fetches, and that step runs it. -/
theorem test_withFetchWord :
    regs (step (State.reset.withFetchWord 16 0x80A9)) = some (0x80#8, 0x00#8, 0x00#8, 0xA0#8, 0xFF#8, 0x0002#16) := by decide
/-! ### Witnesses: a state and operands that meet the hypotheses of each statement -/

/-- A running state with `bytes` at PC 0x8000. -/
def running (bytes : List Byte) : State :=
  poke (base 0x8000#16) ([0x8000#16, 0x8001#16, 0x8002#16].zip bytes)

/-- `exec` of an instruction in a plain state goes on. -/
def goesOn (o : Host.Outcome State Fault Refusal) : Bool :=
  match o with
  | .next _ => true
  | _ => false

theorem of_goesOn {o : Host.Outcome State Fault Refusal} (h : goesOn o = true) : ∃ t, o = .next t := by
  cases o with
  | next s => exact ⟨s, rfl⟩
  | fault f => cases h
  | refused r => cases h

theorem witness_O2 : decode [0xA9#8, 0x05#8, 0x77#8] = .ok (.ldaImm 0x05#8, [0x77#8]) := rfl

/-- One opcode on each side of the equivalence. -/
theorem witness_O3 : 2 ≤ [0x00#8, 0x00#8].length ∧
    (∃ e, decode (0x02#8 :: [0x00#8, 0x00#8]) = .error e) ∧
    decode (0xAD#8 :: [0x00#8, 0x00#8]) = .ok (.ldaAbs 0x0000#16, []) :=
  ⟨by decide, ⟨_, rfl⟩, rfl⟩

theorem witness_O5 : (running [0xA9#8, 0x05#8, 0x00#8]).mode = .running ∧
    decode [(running [0xA9#8, 0x05#8, 0x00#8]).read 0x8000#16, (running [0xA9#8, 0x05#8, 0x00#8]).read 0x8001#16,
      (running [0xA9#8, 0x05#8, 0x00#8]).read 0x8002#16] = .ok (.ldaImm 0x05#8, [0x00#8]) :=
  ⟨rfl, rfl⟩

theorem witness_O6 : (running [0xA9#8, 0x05#8]).mode = .running ∧
    ∀ k b, (encode (.ldaImm 0x05#8))[k]? = some b →
      (running [0xA9#8, 0x05#8]).read ((running [0xA9#8, 0x05#8]).pc + BitVec.ofNat 16 k) = b := by
  refine ⟨rfl, ?_⟩
  intro k b h
  match k with
  | 0 => cases h; rfl
  | 1 => cases h; rfl
  | k + 2 => cases h

/-- One operand form for each clause. -/
theorem witness_O7 :
    ((running [0xA9#8, 0xFF#8]).fetchInstr = some (.ldaImm 0xFF#8) ∧ (Instr.ldaImm 0xFF#8).operand = .immediate 0xFF#8) ∧
    ((running [0xA5#8, 0xFF#8]).fetchInstr = some (.ldaZp 0xFF#8) ∧ (Instr.ldaZp 0xFF#8).operand = .zeroPage 0xFF#8) ∧
    ((running [0x6C#8, 0xFF#8, 0x02#8]).fetchInstr = some (.jmpInd 0x02FF#16) ∧
      (Instr.jmpInd 0x02FF#16).operand = .indirect 0x02FF#16) :=
  ⟨⟨rfl, rfl⟩, ⟨rfl, rfl⟩, ⟨rfl, rfl⟩⟩

/-- The first and the last unsupported byte. -/
theorem witness_O8 : (running [0x02#8]).mode = .running ∧ (running [0x02#8]).read (running [0x02#8]).pc = 0x02#8 ∧
    (running [0xFF#8]).read (running [0xFF#8]).pc = 0xFF#8 :=
  ⟨rfl, rfl, rfl⟩

theorem witness_O9 : ((running []).setMode .halted).mode = .halted ∧ ((running []).setMode .faulted).mode = .faulted :=
  ⟨rfl, rfl⟩

/-- Canonical memory, with the word at the top of memory. -/
theorem witness_O10 : Memory.wf (running [0xA9#8, 0x05#8]).mem = true ∧
    ((running [0xA9#8, 0x05#8]).writeWord 0xFFFF#16 0x1234#16).read 0x0000#16 = 0x12#8 := by decide

/-- Two writes in either order. -/
theorem witness_O11 : Memory.wf (poke State.reset [(0x0010#16, 0x01#8), (0x0020#16, 0x02#8)]).mem = true ∧
    Memory.wf (poke State.reset [(0x0020#16, 0x02#8), (0x0010#16, 0x01#8)]).mem = true ∧
    ∀ k, (poke State.reset [(0x0010#16, 0x01#8), (0x0020#16, 0x02#8)]).read k =
      (poke State.reset [(0x0020#16, 0x02#8), (0x0010#16, 0x01#8)]).read k :=
  ⟨by decide, by decide, fun _ => rfl⟩

/-- A mnemonic on each side of both equivalences, and an instruction of the last clause. -/
theorem witness_O15 : ((Instr.ldaZpX 0xFF#8).kind = .lda ∧ (Instr.ldaZpX 0xFF#8).operand = .zeroPageX 0xFF#8) ∧
    Kind.ldx ∉ [Kind.lda, .ldy, .sta, .sty, .adc, .sbc, .and, .ora, .eor, .cmp, .asl, .lsr, .rol, .ror, .inc, .dec] ∧
    ((Instr.stxZpY 0xFF#8).kind = .stx ∧ (Instr.stxZpY 0xFF#8).operand = .zeroPageY 0xFF#8) ∧
    Kind.lda ∉ [Kind.ldx, .stx] :=
  ⟨⟨rfl, rfl⟩, by decide, ⟨rfl, rfl⟩, by decide⟩

theorem witness_O16 : ((Instr.staAbsX 0xFFFF#16).kind = .sta ∧ (Instr.staAbsX 0xFFFF#16).operand = .absoluteX 0xFFFF#16) ∧
    Kind.ldx ∉ [Kind.lda, .ldy, .sta, .adc, .sbc, .and, .ora, .eor, .cmp, .asl, .lsr, .rol, .ror, .inc, .dec] ∧
    ((Instr.staAbsY 0xFFFF#16).kind = .sta ∧ (Instr.staAbsY 0xFFFF#16).operand = .absoluteY 0xFFFF#16) ∧
    Kind.ldy ∉ [Kind.lda, .ldx, .sta, .adc, .sbc, .and, .ora, .eor, .cmp] :=
  ⟨⟨rfl, rfl⟩, by decide, ⟨rfl, rfl⟩, by decide⟩

/-- Both settings of the parameter of the indirect modes, with the pointer at the end of page zero. -/
theorem witness_O17 : (running []).cfg.zpPtrWrap = true ∧
    resolve (.indirectY 0xFF#8) (poke (running []) [(0x00FF#16, 0x34#8), (0x0000#16, 0x12#8)]) = some 0x1234#16 ∧
    resolve (.indirectY 0xFF#8)
      (poke { running [] with cfg := { Params.defaults with zpPtrWrap := false } }
        [(0x00FF#16, 0x34#8), (0x0100#16, 0x12#8)]) = some 0x1234#16 := by decide

theorem witness_O19 : resolve (.zeroPage 0xFF#8) (running []) = some 0x00FF#16 ∧
    (∀ m, Operand.zeroPage 0xFF#8 ≠ .immediate m) ∧ resolve .implied (running []) = none ∧
    resolve .accumulator (running []) = none :=
  ⟨rfl, nofun, rfl, rfl⟩

theorem witness_O20 : (Instr.ldaImm 0x00#8).kind = .lda ∧ (Instr.ldxZpY 0xFF#8).kind = .ldx ∧
    (Instr.ldyAbsX 0xFFFF#16).kind = .ldy := ⟨rfl, rfl, rfl⟩

theorem witness_O21 : Memory.wf (running [0x85#8]).mem = true ∧ (Instr.staIndY 0xFF#8).kind = .sta ∧
    (Instr.stxZpY 0xFF#8).kind = .stx ∧ (Instr.styAbs 0xFFFF#16).kind = .sty := ⟨by decide, rfl, rfl, rfl⟩

/-- Each of the two clauses, under the policy that refuses. -/
theorem witness_O23 : (Instr.adcImm 0x01#8).kind = .adc ∧
    (∃ s : State, s.p.d = true ∧ s.cfg.decimalPolicy = .refuse) ∧
    ∃ s : State, ¬ (s.p.d = true ∧ s.cfg.decimalPolicy = .refuse) ∧ s.p.d = true :=
  ⟨rfl,
    ⟨{ running [] with p := flags 0x28#8, cfg := { Params.defaults with decimalPolicy := .refuse } }, by decide⟩,
    ⟨{ running [] with p := flags 0x28#8 }, by decide⟩⟩

theorem witness_O24 : (Instr.sbcImm 0x01#8).kind = .sbc ∧
    (∃ s : State, s.p.d = true ∧ s.cfg.decimalPolicy = .refuse) ∧
    ∃ s : State, ¬ (s.p.d = true ∧ s.cfg.decimalPolicy = .refuse) ∧ s.cfg.decimalPolicy = .refuse :=
  ⟨rfl,
    ⟨{ running [] with p := flags 0x28#8, cfg := { Params.defaults with decimalPolicy := .refuse } }, by decide⟩,
    ⟨{ running [] with cfg := { Params.defaults with decimalPolicy := .refuse } }, by decide⟩⟩

theorem witness_O25 : (Instr.andImm 0x00#8).kind = .and ∧ (Instr.oraIndX 0x00#8).kind = .ora ∧
    (Instr.eorAbsY 0x0000#16).kind = .eor := ⟨rfl, rfl, rfl⟩

theorem witness_O27 : Memory.wf (running [0x06#8]).mem = true ∧
    ((Instr.aslZp 0x10#8).kind = .asl ∧ (Instr.aslZp 0x10#8).mode ≠ .accumulator) ∧
    ((Instr.lsrZpX 0x10#8).kind = .lsr ∧ (Instr.lsrZpX 0x10#8).mode ≠ .accumulator) ∧
    ((Instr.rolAbs 0x0010#16).kind = .rol ∧ (Instr.rolAbs 0x0010#16).mode ≠ .accumulator) ∧
    ((Instr.rorAbsX 0x0010#16).kind = .ror ∧ (Instr.rorAbsX 0x0010#16).mode ≠ .accumulator) := by decide

theorem witness_O28 : Memory.wf (running [0xE6#8]).mem = true ∧ (Instr.incZp 0xFF#8).kind = .inc ∧
    (Instr.decAbsX 0xFFFF#16).kind = .dec := ⟨by decide, rfl, rfl⟩

theorem witness_O30 : (Instr.cmpImm 0xFF#8).kind = .cmp ∧ (Instr.cpxZp 0xFF#8).kind = .cpx ∧
    (Instr.cpyAbs 0xFFFF#16).kind = .cpy := ⟨rfl, rfl, rfl⟩

/-- Both settings of the parameter of `JMP (ptr)`, with the pointer at the end of a page. -/
theorem witness_O32 : (running []).indirectTarget 0x02FF#16 = 0x0000#16 ∧
    (poke (running []) [(0x02FF#16, 0x34#8), (0x0200#16, 0x12#8)]).indirectTarget 0x02FF#16 = 0x1234#16 ∧
    (poke { running [] with cfg := { Params.defaults with jmpIndPageWrap := false } }
      [(0x02FF#16, 0x34#8), (0x0300#16, 0x56#8)]).indirectTarget 0x02FF#16 = 0x5634#16 := by decide

/-- Canonical memory with the stack pointer at the bottom of the stack page, where a push wraps. -/
theorem witness_O33_O35_O36_O38_O41 : Memory.wf { running [0x20#8, 0x00#8, 0x90#8] with sp := 0x00#8 }.mem = true := by
  decide

theorem witness_O40 : (Instr.bitZp 0xFF#8).kind = .bit ∧ (Instr.bitAbs 0xFFFF#16).kind = .bit := ⟨rfl, rfl⟩

theorem witness_O43 : Memory.wf (running [0x00#8]).mem = true ∧ (running [0x00#8]).mode = .running := by decide

theorem witness_O45 :
    (((Instr.adcImm 0x01#8).kind = .adc ∨ (Instr.adcImm 0x01#8).kind = .sbc) ∧
      { running [] with p := flags 0x28#8, cfg := { Params.defaults with decimalPolicy := .refuse } }.p.d = true ∧
      { running [] with p := flags 0x28#8,
                        cfg := { Params.defaults with decimalPolicy := .refuse } }.cfg.decimalPolicy = .refuse) ∧
    ¬ (((Instr.sbcImm 0x01#8).kind = .adc ∨ (Instr.sbcImm 0x01#8).kind = .sbc) ∧
      { running [] with p := flags 0x28#8 }.p.d = true ∧
      { running [] with p := flags 0x28#8 }.cfg.decimalPolicy = .refuse) := by decide

/-- A step of BRK and a step of another instruction. -/
theorem witness_O46 :
    ((∃ t, step (running [0x00#8]) = .next t) ∧ (running [0x00#8]).read (running [0x00#8]).pc = 0x00#8) ∧
    ((∃ t, step (running [0xEA#8]) = .next t) ∧ (running [0xEA#8]).read (running [0xEA#8]).pc ≠ 0x00#8) :=
  ⟨⟨of_goesOn (by decide), rfl⟩, ⟨of_goesOn (by decide), by decide⟩⟩

/-- The invariant holds in a state that goes on and in a state that faults. -/
theorem witness_O47 :
    ((running [0x48#8]).Inv ∧ ∃ t, step (running [0x48#8]) = .next t) ∧
    ((running [0xFF#8]).Inv ∧ ∃ t, step (running [0xFF#8]) = .fault (.unsupportedOpcode 0xFF#8 0x8000#16 t)) :=
  ⟨⟨⟨by decide, by decide⟩, of_goesOn (by decide)⟩, ⟨⟨by decide, by decide⟩, ⟨_, rfl⟩⟩⟩

theorem witness_O49_O50 : ∃ t, exec (.ldaImm 0x80#8) (running []) = .next t := ⟨_, rfl⟩

/-- A shift of A, which is left out of the writers of memory, and an instruction that is not among them. -/
theorem witness_O51 :
    ((∃ t, exec .aslAcc (running []) = .next t) ∧ Instr.aslAcc.kind ∈ [Kind.asl, .lsr, .rol, .ror] ∧
      Instr.aslAcc.mode = .accumulator) ∧
    ((∃ t, exec (.cmpImm 0x01#8) (running []) = .next t) ∧
      (Instr.cmpImm 0x01#8).kind ∉ [Kind.sta, .stx, .sty, .inc, .dec, .pha, .php, .jsr, .brk]) :=
  ⟨⟨⟨_, rfl⟩, by decide, rfl⟩, ⟨⟨_, rfl⟩, by decide⟩⟩

/-- At the top of memory, where PC wraps. -/
theorem witness_O52 : (∃ t, step (poke (base 0xFFFF#16) [(0xFFFF#16, 0xEA#8)]) = .next t) ∧
    (poke (base 0xFFFF#16) [(0xFFFF#16, 0xEA#8)]).fetchInstr = some .nop ∧
    Instr.nop.kind ∉ [Kind.bcc, .bcs, .beq, .bne, .bmi, .bpl, .bvc, .bvs, .jmp, .jsr, .rts, .rti] :=
  ⟨of_goesOn (by decide), rfl, by decide⟩

/-- Canonical memory and the pushed byte's address for the clauses about PHP and BRK, which go on: SP is 0x00 for PHP and
0x01 for BRK, whose third push wraps. -/
theorem witness_O53_O54_pushes :
    (Memory.wf { running [] with sp := 0x00#8 }.mem = true ∧ (0x0100#16).toNat = 256 + (0x00#8).toNat ∧
      goesOn (exec .php { running [] with sp := 0x00#8 }) = true) ∧
    (Memory.wf { running [] with sp := 0x01#8 }.mem = true ∧ (0x01FF#16).toNat = 256 + ((0x01#8).toNat + 254) % 256 ∧
      goesOn (exec .brk { running [] with sp := 0x01#8 }) = true) ∧
    SameButI { running [] with sp := 0x01#8 } { running [] with sp := 0x01#8, p := flags 0x24#8 } ∧
    SameButD { running [] with sp := 0x01#8 } { running [] with sp := 0x01#8, p := flags 0x28#8 } :=
  ⟨by decide, by decide, rfl, rfl⟩

/-- Two states that differ in I, and an instruction that goes on. -/
theorem witness_O53 : SameButI (running []) { running [] with p := flags 0x24#8 } ∧
    running [] ≠ { running [] with p := flags 0x24#8 } ∧ Instr.nop.kind ≠ .php ∧ Instr.nop.kind ≠ .brk ∧
    ∃ t, exec .nop (running []) = .next t :=
  ⟨rfl, by decide, by decide, by decide, ⟨_, rfl⟩⟩

/-- Two states that differ in D, and an addition that goes on under the binary policy. -/
theorem witness_O54 : (running []).cfg.decimalPolicy = .binary ∧
    SameButD (running []) { running [] with p := flags 0x28#8 } ∧
    running [] ≠ { running [] with p := flags 0x28#8 } ∧ (Instr.adcImm 0x05#8).kind ≠ .php ∧
    (Instr.adcImm 0x05#8).kind ≠ .brk ∧ ∃ t, exec (.adcImm 0x05#8) (running []) = .next t :=
  ⟨rfl, rfl, by decide, by decide, by decide, ⟨_, rfl⟩⟩

theorem witness_O55 : (running []).mode ≠ .faulted ∧ ((running []).setMode .halted).mode ≠ .faulted := by decide

/-- A faulted state, and the shortest image that is too long. -/
theorem witness_O56 : ((running []).setMode .faulted).mode = .faulted ∧ (running []).mode ≠ .faulted ∧
    0x8000 < (List.replicate 0x8001 0xEA#8).length :=
  ⟨rfl, by decide, by rw [List.length_replicate]; decide⟩

/-- The longest image, which covers the reset vector: a byte beside the vector is the image's, and an address below
the image is not. -/
theorem witness_O57_O58 : (running []).mode ≠ .faulted ∧ Memory.wf (running []).mem = true ∧
    (List.replicate 0x8000 0xEA#8).length ≤ 0x8000 ∧ (List.replicate 0x8000 0xEA#8)[0x7FFE]? = some 0xEA#8 ∧
    (0x7FFF#16).toNat < 0x8000 := by
  refine ⟨by decide, by decide, by rw [List.length_replicate], ?_, by decide⟩
  rw [List.getElem?_replicate]
  rfl

/-- A BRK at once ends a run successfully. -/
theorem witness_O59 : (∃ t, hostRun 1 (running [0x00#8]) = some (.next t)) ∧ (∃ t, RunSucceeds (running [0x00#8]) t) ∧
    ∃ o, RunEnds (running [0x00#8]) o :=
  ⟨⟨_, rfl⟩, ⟨_, 1, rfl⟩, ⟨_, 1, rfl⟩⟩

/-- `JMP $8000` at 0x8000, in a Running and in a Halted state. -/
theorem witness_O60 : (running [0x4C#8, 0x00#8, 0x80#8]).mode ≠ .faulted ∧
    (running [0x4C#8, 0x00#8, 0x80#8]).read 0x8000#16 = 0x4C#8 ∧
    (running [0x4C#8, 0x00#8, 0x80#8]).read (0x8000#16 + 1#16) = BitVec.ofNat 8 (0x8000#16).toNat ∧
    (running [0x4C#8, 0x00#8, 0x80#8]).read (0x8000#16 + 2#16) = BitVec.ofNat 8 ((0x8000#16).toNat / 256) := by decide

end Sys2Proof.Tests
end

section
/-! What an instruction does, said once. An instruction's meaning depends on its mnemonic, its operand and the state:
`Instr.after` is the state it leaves, and `exec_eq` says that `exec` answers it unless decimal arithmetic is refused.
The proofs about every instruction go through `exec_eq` and the lemmas about `Kind.effect`. -/

namespace Sys2Proof
open Sys2Proof.Machine

/-! ### The parts of an instruction's meaning -/

/-- The operand byte (R185). Implied has none, and no effect asks for one in that mode. -/
def Operand.byteIn (o : Operand) (s : State) : Byte := (readOperand o s).getD 0x00#8

/-- The effective address (R170). Accumulator and Implied have none, and no effect asks for one in those modes. -/
def Operand.addrIn (o : Operand) (s : State) : Addr := (resolve o s).getD 0x0000#16

/-- The state after writing `v` back to the operand's place (R185). -/
def Operand.put (o : Operand) (v : Byte) (s : State) : State := (writeBack o v s).getD s

/-- The target of JMP (R289): its address, or the word its pointer points to. -/
def Operand.jumpTarget (o : Operand) (s : State) : Addr :=
  match o with
  | .indirect _ => s.indirectTarget (o.addrIn s)
  | _ => o.addrIn s

/-- A branch (R280): to the Relative address, or past the instruction. -/
def Machine.State.branched (s : State) (cond : Bool) (o : Operand) : State :=
  if cond then s.setPC (o.addrIn s) else s.advance o.length

/-- The mnemonics whose instructions set PC themselves and do not receive the generic advance (R145, R152). -/
def Kind.setsPC (k : Kind) : Bool :=
  decide (k ∈ [Kind.bcc, Kind.bcs, Kind.beq, Kind.bne, Kind.bmi, Kind.bpl, Kind.bvc, Kind.bvs, Kind.jmp, Kind.jsr,
    Kind.rts, Kind.rti])

/-- The mnemonics that read D (R236). -/
def Kind.readsDecimal (k : Kind) : Bool := decide (k = .adc ∨ k = .sbc)

/-- What the instruction with this mnemonic and operand does, the generic advance left out. -/
def Kind.effect (k : Kind) (o : Operand) (s : State) : State :=
  match k with
  | .lda => (s.setA (o.byteIn s)).setNZ (o.byteIn s)
  | .ldx => (s.setX (o.byteIn s)).setNZ (o.byteIn s)
  | .ldy => (s.setY (o.byteIn s)).setNZ (o.byteIn s)
  | .sta => s.write (o.addrIn s) s.a
  | .stx => s.write (o.addrIn s) s.x
  | .sty => s.write (o.addrIn s) s.y
  | .tax => (s.setX s.a).setNZ s.a
  | .txa => (s.setA s.x).setNZ s.x
  | .tay => (s.setY s.a).setNZ s.a
  | .tya => (s.setA s.y).setNZ s.y
  | .tsx => (s.setX s.sp).setNZ s.sp
  | .txs => s.setSP s.x
  | .adc => s.takeSum (addC s.a (o.byteIn s) s.p.c)
  | .sbc => s.takeSum (addC s.a (~~~(o.byteIn s)) s.p.c)
  | .and => (s.setA (s.a &&& o.byteIn s)).setNZ (s.a &&& o.byteIn s)
  | .ora => (s.setA (s.a ||| o.byteIn s)).setNZ (s.a ||| o.byteIn s)
  | .eor => (s.setA (s.a ^^^ o.byteIn s)).setNZ (s.a ^^^ o.byteIn s)
  | .asl => (o.put (shiftLeft (o.byteIn s)).value s).setP (s.p.afterShift (shiftLeft (o.byteIn s)))
  | .lsr => (o.put (shiftRight (o.byteIn s)).value s).setP (s.p.afterShift (shiftRight (o.byteIn s)))
  | .rol => (o.put (rotateLeft (o.byteIn s) s.p.c).value s).setP (s.p.afterShift (rotateLeft (o.byteIn s) s.p.c))
  | .ror => (o.put (rotateRight (o.byteIn s) s.p.c).value s).setP (s.p.afterShift (rotateRight (o.byteIn s) s.p.c))
  | .inc => (o.put (o.byteIn s + 1#8) s).setP (s.p.setNZ (o.byteIn s + 1#8))
  | .dec => (o.put (o.byteIn s - 1#8) s).setP (s.p.setNZ (o.byteIn s - 1#8))
  | .inx => (s.setX (s.x + 1#8)).setNZ (s.x + 1#8)
  | .iny => (s.setY (s.y + 1#8)).setNZ (s.y + 1#8)
  | .dex => (s.setX (s.x - 1#8)).setNZ (s.x - 1#8)
  | .dey => (s.setY (s.y - 1#8)).setNZ (s.y - 1#8)
  | .cmp => s.setP (s.p.compare s.a (o.byteIn s))
  | .cpx => s.setP (s.p.compare s.x (o.byteIn s))
  | .cpy => s.setP (s.p.compare s.y (o.byteIn s))
  | .bcc => s.branched (!s.p.c) o
  | .bcs => s.branched s.p.c o
  | .beq => s.branched s.p.z o
  | .bne => s.branched (!s.p.z) o
  | .bmi => s.branched s.p.n o
  | .bpl => s.branched (!s.p.n) o
  | .bvc => s.branched (!s.p.v) o
  | .bvs => s.branched s.p.v o
  | .jmp => s.setPC (o.jumpTarget s)
  | .jsr => (s.push16 (s.pc + 1#16)).setPC (o.addrIn s)
  | .rts => s.pull16.2.setPC (s.pull16.1 + 1#16)
  | .rti => s.trapReturn
  | .pha => s.push8 s.a
  | .php => s.push8 s.p.pushed
  | .pla => (s.pull8.2.setA s.pull8.1).setNZ s.pull8.1
  | .plp => s.pull8.2.setP (Flags.ofPulled s.pull8.1)
  | .clc => s.setP { s.p with c := false }
  | .sec => s.setP { s.p with c := true }
  | .cli => s.setP { s.p with i := false }
  | .sei => s.setP { s.p with i := true }
  | .cld => s.setP { s.p with d := false }
  | .sed => s.setP { s.p with d := true }
  | .clv => s.setP { s.p with v := false }
  | .bit => s.setP (s.p.bitTest s.a (o.byteIn s))
  | .brk => s.trapEntry
  | .nop => s

/-- The state an instruction leaves: its effect, and the generic advance unless it set PC (R146). -/
def Instr.after (i : Instr) (s : State) : State :=
  if i.kind.setsPC then i.kind.effect i.operand s else (i.kind.effect i.operand s).advance i.length

/-! ### exec is the effect, or a refusal -/

theorem branch_eq (cond : Bool) (d : Byte) (s : State) : branch cond d s = .next (s.branched cond (.relative d)) := by
  cases cond <;> rfl

/-- What `exec` answers for every instruction: the refusal of R236, or the state the instruction leaves. -/
theorem exec_eq (i : Instr) (s : State) :
    exec i s = if i.kind.readsDecimal && s.refusesDecimal then .refused .decimalMode else .next (i.after s) := by
  cases i with
  | bcc d | bcs d | beq d | bne d | bmi d | bpl d | bvc d | bvs d => exact branch_eq _ d s
  | _ => rfl

/-- An instruction goes on unless its arithmetic is refused, and then it leaves `Instr.after`. -/
theorem exec_eq_next {i : Instr} {s t : State} :
    exec i s = .next t ↔ (i.kind.readsDecimal && s.refusesDecimal) = false ∧ t = i.after s := by
  rw [exec_eq]
  split
  · next h => simp [h]
  · next h => simp [h, eq_comm]

theorem exec_ne_fault (i : Instr) (s : State) (f : Fault) : exec i s ≠ .fault f := by
  rw [exec_eq]
  split <;> simp

/-! ### The generic advance changes PC alone -/

@[simp] theorem Instr.after_a (i : Instr) (s : State) : (i.after s).a = (i.kind.effect i.operand s).a := by
  unfold Instr.after; split <;> rfl
@[simp] theorem Instr.after_x (i : Instr) (s : State) : (i.after s).x = (i.kind.effect i.operand s).x := by
  unfold Instr.after; split <;> rfl
@[simp] theorem Instr.after_y (i : Instr) (s : State) : (i.after s).y = (i.kind.effect i.operand s).y := by
  unfold Instr.after; split <;> rfl
@[simp] theorem Instr.after_p (i : Instr) (s : State) : (i.after s).p = (i.kind.effect i.operand s).p := by
  unfold Instr.after; split <;> rfl
@[simp] theorem Instr.after_sp (i : Instr) (s : State) : (i.after s).sp = (i.kind.effect i.operand s).sp := by
  unfold Instr.after; split <;> rfl
@[simp] theorem Instr.after_mem (i : Instr) (s : State) : (i.after s).mem = (i.kind.effect i.operand s).mem := by
  unfold Instr.after; split <;> rfl
@[simp] theorem Instr.after_mode (i : Instr) (s : State) : (i.after s).mode = (i.kind.effect i.operand s).mode := by
  unfold Instr.after; split <;> rfl
@[simp] theorem Instr.after_fault (i : Instr) (s : State) : (i.after s).fault = (i.kind.effect i.operand s).fault := by
  unfold Instr.after; split <;> rfl

/-! ### A branch changes PC alone -/

@[simp] theorem Machine.State.branched_a (s : State) (c : Bool) (o : Operand) : (s.branched c o).a = s.a := by
  cases c <;> rfl
@[simp] theorem Machine.State.branched_x (s : State) (c : Bool) (o : Operand) : (s.branched c o).x = s.x := by
  cases c <;> rfl
@[simp] theorem Machine.State.branched_y (s : State) (c : Bool) (o : Operand) : (s.branched c o).y = s.y := by
  cases c <;> rfl
@[simp] theorem Machine.State.branched_p (s : State) (c : Bool) (o : Operand) : (s.branched c o).p = s.p := by
  cases c <;> rfl
@[simp] theorem Machine.State.branched_sp (s : State) (c : Bool) (o : Operand) : (s.branched c o).sp = s.sp := by
  cases c <;> rfl
@[simp] theorem Machine.State.branched_mem (s : State) (c : Bool) (o : Operand) : (s.branched c o).mem = s.mem := by
  cases c <;> rfl
@[simp] theorem Machine.State.branched_mode (s : State) (c : Bool) (o : Operand) : (s.branched c o).mode = s.mode := by
  cases c <;> rfl
@[simp] theorem Machine.State.branched_fault (s : State) (c : Bool) (o : Operand) :
    (s.branched c o).fault = s.fault := by
  cases c <;> rfl

/-! ### Writing back changes A or one byte -/

@[simp] theorem Operand.put_x (o : Operand) (v : Byte) (s : State) : (o.put v s).x = s.x := by cases o <;> rfl
@[simp] theorem Operand.put_y (o : Operand) (v : Byte) (s : State) : (o.put v s).y = s.y := by cases o <;> rfl
@[simp] theorem Operand.put_p (o : Operand) (v : Byte) (s : State) : (o.put v s).p = s.p := by cases o <;> rfl
@[simp] theorem Operand.put_sp (o : Operand) (v : Byte) (s : State) : (o.put v s).sp = s.sp := by cases o <;> rfl
@[simp] theorem Operand.put_pc (o : Operand) (v : Byte) (s : State) : (o.put v s).pc = s.pc := by cases o <;> rfl
@[simp] theorem Operand.put_mode (o : Operand) (v : Byte) (s : State) : (o.put v s).mode = s.mode := by cases o <;> rfl
@[simp] theorem Operand.put_fault (o : Operand) (v : Byte) (s : State) : (o.put v s).fault = s.fault := by
  cases o <;> rfl

theorem Operand.put_a_of_mode_ne {o : Operand} (h : o.mode ≠ .accumulator) (v : Byte) (s : State) :
    (o.put v s).a = s.a := by
  cases o with
  | accumulator => exact absurd rfl h
  | _ => rfl

/-- Writing back keeps memory canonical. -/
theorem Operand.wf_put {s : State} (h : Memory.wf s.mem = true) (o : Operand) (v : Byte) :
    Memory.wf (o.put v s).mem = true := by
  cases o with
  | accumulator | implied => exact h
  | _ => exact State.wf_write h _ _

/-! ### What every effect keeps -/

theorem Kind.effect_fault (k : Kind) (o : Operand) (s : State) : (k.effect o s).fault = s.fault := by
  cases k <;> simp [Kind.effect, State.takeSum]

/-- BRK halts the loop (R147) and no other instruction changes the mode. -/
theorem Kind.effect_mode (k : Kind) (o : Operand) (s : State) :
    (k.effect o s).mode = if k = .brk then .halted else s.mode := by
  cases k <;> simp [Kind.effect, State.takeSum]

/-- Only the instructions that set PC themselves change it before the generic advance (R145). -/
theorem Kind.effect_pc {k : Kind} (h : k.setsPC = false) (o : Operand) (s : State) : (k.effect o s).pc = s.pc := by
  cases k with
  | bcc | bcs | beq | bne | bmi | bpl | bvc | bvs | jmp | jsr | rts | rti => simp [Kind.setsPC] at h
  | _ => simp [Kind.effect, State.takeSum]

/-- Memory changes through `write`, `put` and the pushes only (R84), and these keep it canonical. -/
theorem Kind.wf_effect {s : State} (h : Memory.wf s.mem = true) (k : Kind) (o : Operand) :
    Memory.wf (k.effect o s).mem = true := by
  cases k with
  | sta | stx | sty => exact State.wf_write h _ _
  | asl | lsr | rol | ror | inc | dec => exact Operand.wf_put h o _
  | pha | php => exact State.wf_push8 h _
  | jsr => exact State.wf_push16 h _
  | brk => exact State.wf_trapEntry h
  | bcc | bcs | beq | bne | bmi | bpl | bvc | bvs => simpa [Kind.effect] using h
  | _ => exact h

end Sys2Proof
end

section
/-! The bits of the status byte and of the pushed byte (R45, R49), and I and D as flags that no computation reads (R41,
R42). -/

namespace Sys2Proof.Machine

/-! ### The status byte -/

/-- The bits of the status byte: `N V 1 B D I Z C` from bit 7 down (R49). -/
@[simp] theorem Flags.getElem_toByte (p : Flags) :
    p.toByte[0] = p.c ∧ p.toByte[1] = p.z ∧ p.toByte[2] = p.i ∧ p.toByte[3] = p.d ∧ p.toByte[4] = p.b ∧
      p.toByte[5] = true ∧ p.toByte[6] = p.v ∧ p.toByte[7] = p.n := by
  simp only [← BitVec.getLsbD_eq_getElem, Flags.toByte, BitVec.getLsbD_append]
  simp

/-- The pushed byte is the status byte with bits 4 and 5 set (R49). -/
theorem Flags.getElem_pushed (p : Flags) {k : Nat} (hk : k < 8) :
    p.pushed[k] = (decide (k = 4 ∨ k = 5) || p.toByte[k]) := by
  have mask : (0x30#8)[k] = decide (k = 4 ∨ k = 5) := by decide +revert
  simp only [Flags.pushed, BitVec.getElem_or, mask, Bool.or_comm]

/-- After pulling `v` the status byte is `v` with bit 4 cleared and bit 5 set (R49). -/
theorem Flags.toByte_ofPulled (v : Byte) : (Flags.ofPulled v).toByte = (v &&& 0xEF#8) ||| 0x20#8 := by
  apply BitVec.eq_of_getElem_eq
  intro k hk
  interval_cases k <;> simp

/-- Pulling a pushed byte gives the flags back with B = 0 (R49). -/
theorem Flags.ofPulled_pushed (p : Flags) : Flags.ofPulled p.pushed = { p with b := false } := by
  simp [Flags.ofPulled, Flags.getElem_pushed]

end Sys2Proof.Machine
end

section
/-! The statements about the state: what every step keeps, which instruction writes what, and the status byte. -/

namespace Sys2Proof
open Sys2Proof.Machine

/-! ### The invariant -/

/-- An instruction executed in a Running state that meets the invariant leaves one that does: no fault report was there
and none is made, and the mode is Running or Halted. -/
theorem Instr.inv_after {s : State} (h : s.Inv) (hrun : s.mode = .running) (i : Instr) : (i.after s).Inv := by
  obtain ⟨hwf, hfault⟩ := h
  have hnone : s.fault.isSome = false := by simpa [hrun] using hfault
  have hmode : (i.after s).mode ≠ .faulted := by
    rw [Instr.after_mode, Kind.effect_mode]
    split <;> simp [hrun]
  refine ⟨by simpa using Kind.wf_effect hwf i.kind i.operand, iff_of_false hmode ?_⟩
  simp [Kind.effect_fault, hnone]

/-- A step that goes on keeps the invariant. -/
theorem step_keeps_inv {s t : State} (h : s.Inv) (hstep : step s = .next t) : t.Inv := by
  obtain ⟨hrun, i, -, hexec⟩ := step_eq_next hstep
  obtain ⟨-, rfl⟩ := exec_eq_next.mp hexec
  exact Instr.inv_after (s := s.fetched) h hrun i

/-- A step faults only on a byte that is no opcode (R142): no instruction faults while it executes. -/
theorem step_eq_fault {s : State} {f : Fault} (h : step s = .fault f) : s.raiseUnsupportedOpcode = .fault f := by
  unfold step at h
  split at h
  · split at h
    · exact absurd h (exec_ne_fault _ _ _)
    · exact h
  · cases h

/-- Raising a fault gives a state that meets the invariant, if memory is canonical. -/
theorem raise_keeps_inv {s : State} (h : s.Inv) (r : FaultReport) : ∃ f, raise r s = .fault f ∧ f.after.Inv := by
  obtain ⟨f, hf, hafter⟩ := raise_eq_fault r s
  exact ⟨f, hf, hafter ▸ State.inv_faulted h.1 r⟩

/-- Settles O47, over what an instruction leaves (`Instr.inv_after`) and the one fault a step can raise. -/
theorem everyStepKeepsTheInvariant : Obligations.EveryStepKeepsTheInvariant := by
  refine ⟨fun s t h hstep => step_keeps_inv h hstep, fun s f h hstep => ?_, fun s r h => raise_keeps_inv h r⟩
  obtain ⟨f', hf', hinv⟩ := raise_keeps_inv (s := s.fetched) h (.unsupportedOpcode (s.read s.pc) s.pc)
  have hff : Host.Outcome.fault f' = .fault f := hf'.symm.trans (step_eq_fault hstep)
  cases hff
  exact hinv

/-- Settles O48. -/
theorem theResetStateMeetsTheInvariant : Obligations.TheResetStateMeetsTheInvariant :=
  ⟨⟨Memory.wf_nil, by decide⟩, fun _ => ⟨Memory.wf_nil, by simp [State.create]⟩⟩

/-! ### Memory -/

/-- A canonical list whose addresses all exceed `j` is not looked up like one whose first address is `j`. -/
theorem Machine.Memory.lookup_ne_of_head_below {m rest : List Host.Cell} {low j : Nat} {w : Byte}
    (h : Memory.wfFrom low ((j, w) :: rest) = true) (h' : Memory.wfFrom (j + 1) m = true) :
    Memory.lookup ((j, w) :: rest) j ≠ Memory.lookup m j := by
  obtain ⟨-, -, hw, -⟩ := Memory.wfFrom_cons.mp h
  rw [Memory.lookup_below h' (Nat.lt_succ_self j), Memory.lookup, if_pos rfl]
  exact hw

/-- Two canonical lists that are looked up alike are the same list: neither first address is below the other, the bytes
there agree, and so the tails are looked up alike. -/
theorem Machine.Memory.eq_of_lookup_eq {m m' : List Host.Cell} {low low' : Nat} (h : Memory.wfFrom low m = true)
    (h' : Memory.wfFrom low' m' = true) (heq : ∀ k, k < 65536 → Memory.lookup m k = Memory.lookup m' k) : m = m' := by
  induction m generalizing m' low low' with
  | nil =>
    cases m' with
    | nil => rfl
    | cons c' rest' =>
      obtain ⟨-, hj', -⟩ := Memory.wfFrom_cons.mp h'
      exact absurd (heq _ hj').symm (Memory.lookup_ne_of_head_below h' rfl)
  | cons c rest ih =>
    obtain ⟨-, hj, hw, hrest⟩ := Memory.wfFrom_cons.mp h
    cases m' with
    | nil => exact absurd (heq _ hj) (Memory.lookup_ne_of_head_below h rfl)
    | cons c' rest' =>
      obtain ⟨j, w⟩ := c
      obtain ⟨j', w'⟩ := c'
      obtain ⟨-, hj', hw', hrest'⟩ := Memory.wfFrom_cons.mp h'
      obtain hlt | rfl | hgt := lt_trichotomy j j'
      · exact absurd (heq j hj)
          (Memory.lookup_ne_of_head_below h (Memory.wfFrom_cons.mpr ⟨hlt, hj', hw', hrest'⟩))
      · have hww : w = w' := by simpa [Memory.lookup] using heq j hj
        have htail : rest = rest' := ih hrest hrest' fun k hk => by
          by_cases hkj : k < j + 1
          · rw [Memory.lookup_below hrest hkj, Memory.lookup_below hrest' hkj]
          · have hne : j ≠ k := by omega
            simpa [Memory.lookup, hne] using heq k hk
        rw [hww, htail]
      · exact absurd (heq j' hj').symm
          (Memory.lookup_ne_of_head_below h' (Memory.wfFrom_cons.mpr ⟨hgt, hj, hw, hrest⟩))

/-- Settles O11. -/
theorem memoriesThatReadAlikeAreEqual : Obligations.MemoriesThatReadAlikeAreEqual := by
  intro s t hs ht heq
  refine Memory.eq_of_lookup_eq hs ht fun k hk => ?_
  simpa [State.read, Nat.mod_eq_of_lt hk] using heq (BitVec.ofNat 16 k)

/-! ### The status byte -/

/-- Settles O12. -/
theorem statusByteHasItsFlagsAtTheirBits : Obligations.StatusByteHasItsFlagsAtTheirBits := by
  intro p
  simp

/-- Settles O13. -/
theorem pushedStatusByteAndItsPull : Obligations.PushedStatusByteAndItsPull := by
  refine ⟨fun p k hk => ?_, Flags.toByte_ofPulled, Flags.ofPulled_pushed⟩
  rw [BitVec.getLsbD_eq_getElem hk, BitVec.getLsbD_eq_getElem hk, Flags.getElem_pushed p hk]

/-! ### Who writes what -/

/-- Accumulator mode is the shifts' and rotates' alone (R182). -/
theorem Instr.kind_mem_of_mode_accumulator {i : Instr} (h : i.mode = .accumulator) :
    i.kind ∈ [Kind.asl, Kind.lsr, Kind.rol, Kind.ror] := by
  cases i with
  | aslAcc | lsrAcc | rolAcc | rorAcc => simp [Instr.kind]
  | _ => cases h

/-- Settles O49, by the effect of each mnemonic; the shifts write A in Accumulator mode alone. -/
theorem onlyTheirWritersChangeARegister : Obligations.OnlyTheirWritersChangeARegister := by
  intro i s t h
  obtain ⟨-, rfl⟩ := exec_eq_next.mp h
  simp only [Instr.after_a, Instr.after_x, Instr.after_y, Instr.after_sp]
  refine ⟨?_, ?_, ?_, ?_⟩
  · by_cases hm : i.mode = .accumulator
    · exact .inr (.inr ⟨hm, Instr.kind_mem_of_mode_accumulator hm⟩)
    · cases i.kind <;> simp [Kind.effect, Operand.put_a_of_mode_ne hm]
  · cases i.kind <;> simp [Kind.effect, State.takeSum]
  · cases i.kind <;> simp [Kind.effect, State.takeSum]
  · cases i.kind <;> simp [Kind.effect, State.takeSum]

/-- Settles O50, by the effect of each mnemonic on P. -/
theorem onlyTheirWritersChangeAFlag : Obligations.OnlyTheirWritersChangeAFlag := by
  intro i s t h
  obtain ⟨-, rfl⟩ := exec_eq_next.mp h
  simp only [Instr.after_p]
  cases i.kind with
  | brk => cases hb : s.cfg.brkSetsI <;> simp [Kind.effect, hb]
  | _ => simp [Kind.effect, State.takeSum]

/-! ### The advance of PC -/

theorem encode_length (i : Instr) : (encode i).length = i.length := by
  simp only [encode, List.length_cons, Instr.length, Operand.length]
  cases i.operand <;> rfl

/-- Settles O52: the fetch counts the opcode byte, the generic advance the others. -/
theorem plainInstructionsAdvanceByTheirLength : Obligations.PlainInstructionsAdvanceByTheirLength := by
  intro s t i hstep hfetch hkind
  obtain ⟨-, j, hj, hexec⟩ := step_eq_next hstep
  obtain rfl : i = j := Option.some.inj (hfetch.symm.trans hj)
  obtain ⟨-, rfl⟩ := exec_eq_next.mp hexec
  have hset : i.kind.setsPC = false := decide_eq_false hkind
  have hpc : (i.after s.fetched).pc = s.pc + 1#16 + BitVec.ofNat 16 (i.length - 1) := by
    simp [Instr.after, hset, Kind.effect_pc hset]
  have hlen : 1 ≤ (encode i).length := by simp [encode]
  rw [hpc, ← encode_length]
  simp only [BitVec.toNat_add, BitVec.toNat_ofNat]
  omega

end Sys2Proof
end

section
/-! I and D change no instruction but those that push P (R41, R42, R345). Both flags are treated at once: no
computation reads them, so instructions executed in states that differ in one of them leave states that differ at most
in it. -/

namespace Sys2Proof
open Sys2Proof.Machine

/-- The two flags no binary computation reads: I (R41) and D (R42). -/
inductive SilentFlag where
  | interrupt
  | decimal

namespace SilentFlag

/-- The flag's value. -/
def value : SilentFlag → Flags → Bool
  | .interrupt, p => p.i
  | .decimal, p => p.d

/-- The flag's bit of the status byte (R38). -/
def bit : SilentFlag → Nat
  | .interrupt => 2
  | .decimal => 3

/-- The other flags, with this one cleared. -/
def clear : SilentFlag → Flags → Flags
  | .interrupt, p => { p with i := false }
  | .decimal, p => { p with d := false }

/-- The states agree in everything but the flag. -/
def SameBut (f : SilentFlag) (s t : State) : Prop := s.setP (f.clear s.p) = t.setP (f.clear t.p)

theorem sameButI_iff {s t : State} : SameButI s t ↔ SilentFlag.interrupt.SameBut s t := Iff.rfl

theorem sameButD_iff {s t : State} : SameButD s t ↔ SilentFlag.decimal.SameBut s t := Iff.rfl

/-! ### No computation of flags reads the flag -/

section
variable (f : SilentFlag) (p : Flags)

@[simp] theorem clear_c : (f.clear p).c = p.c := by cases f <;> rfl
@[simp] theorem clear_z : (f.clear p).z = p.z := by cases f <;> rfl
@[simp] theorem clear_v : (f.clear p).v = p.v := by cases f <;> rfl
@[simp] theorem clear_n : (f.clear p).n = p.n := by cases f <;> rfl

@[simp] theorem clear_setNZ (v : Byte) : f.clear (p.setNZ v) = (f.clear p).setNZ v := by cases f <;> rfl
@[simp] theorem clear_afterSum (r : Sum) : f.clear (p.afterSum r) = (f.clear p).afterSum r := by cases f <;> rfl
@[simp] theorem clear_compare (reg m : Byte) : f.clear (p.compare reg m) = (f.clear p).compare reg m := by
  cases f <;> rfl
@[simp] theorem clear_afterShift (r : Shifted) : f.clear (p.afterShift r) = (f.clear p).afterShift r := by
  cases f <;> rfl
@[simp] theorem clear_bitTest (a m : Byte) : f.clear (p.bitTest a m) = (f.clear p).bitTest a m := by cases f <;> rfl

end

/-! Writing one flag keeps two sets of flags alike but for the silent one. -/

theorem clear_setC {f : SilentFlag} {p q : Flags} (h : f.clear p = f.clear q) (b : Bool) :
    f.clear { p with c := b } = f.clear { q with c := b } := by
  cases f <;> exact congrArg (fun r : Flags => { r with c := b }) h

theorem clear_setV {f : SilentFlag} {p q : Flags} (h : f.clear p = f.clear q) (b : Bool) :
    f.clear { p with v := b } = f.clear { q with v := b } := by
  cases f <;> exact congrArg (fun r : Flags => { r with v := b }) h

theorem clear_setI {f : SilentFlag} {p q : Flags} (h : f.clear p = f.clear q) (b : Bool) :
    f.clear { p with i := b } = f.clear { q with i := b } := by
  cases f with
  | interrupt => exact h
  | decimal => exact congrArg (fun r : Flags => { r with i := b }) h

theorem clear_setD {f : SilentFlag} {p q : Flags} (h : f.clear p = f.clear q) (b : Bool) :
    f.clear { p with d := b } = f.clear { q with d := b } := by
  cases f with
  | interrupt => exact congrArg (fun r : Flags => { r with d := b }) h
  | decimal => exact h

/-- The trap entry keeps I or sets it whatever it was, so it keeps two sets of flags alike but for the flag. -/
theorem clear_trapEntry {f : SilentFlag} {p q : Flags} (h : f.clear p = f.clear q) (sets : Bool) :
    f.clear { p with b := true, i := sets || p.i } = f.clear { q with b := true, i := sets || q.i } := by
  cases f with
  | interrupt => exact congrArg (fun r : Flags => { r with b := true }) h
  | decimal => exact congrArg (fun r : Flags => { r with b := true, i := sets || r.i }) h

/-! ### States that agree in everything but the flag -/

theorem sameBut_iff {f : SilentFlag} {s t : State} :
    f.SameBut s t ↔ s.a = t.a ∧ s.x = t.x ∧ s.y = t.y ∧ f.clear s.p = f.clear t.p ∧ s.sp = t.sp ∧ s.pc = t.pc ∧
      s.mem = t.mem ∧ s.mode = t.mode ∧ s.fault = t.fault ∧ s.cfg = t.cfg := by
  simp only [SameBut, State.setP, State.mk.injEq]

/-- A state that agrees with `s` in everything but the flag is `s` with other flags, which agree but for the flag. -/
theorem SameBut.exists_setP {f : SilentFlag} {s t : State} (h : f.SameBut s t) :
    ∃ q, t = s.setP q ∧ f.clear s.p = f.clear q :=
  ⟨t.p, State.eq_of_setP_eq h rfl, congrArg State.p h⟩

theorem sameBut_setP {f : SilentFlag} {p q : Flags} (h : f.clear p = f.clear q) (u : State) :
    f.SameBut (u.setP p) (u.setP q) := by
  rw [SameBut, State.setP_p, State.setP_p, h]
  rfl

/-! ### The flags are no part of an operand -/

section
variable (o : Operand) (s : State) (q : Flags)

@[simp] theorem byteIn_setP : o.byteIn (s.setP q) = o.byteIn s := by cases o <;> rfl
@[simp] theorem addrIn_setP : o.addrIn (s.setP q) = o.addrIn s := by cases o <;> rfl
@[simp] theorem jumpTarget_setP : o.jumpTarget (s.setP q) = o.jumpTarget s := by cases o <;> rfl
@[simp] theorem put_setP (v : Byte) : o.put v (s.setP q) = (o.put v s).setP q := by cases o <;> rfl
@[simp] theorem branched_setP (c : Bool) : (s.setP q).branched c o = (s.branched c o).setP q := by
  cases c
  · rfl
  · simp [State.branched]; rfl
@[simp] theorem push16_setP (v : Addr) : (s.setP q).push16 v = (s.push16 v).setP q := rfl

end

/-! ### The effect of an instruction that pushes no status byte -/

/-- The effects on two states that agree in everything but the flag agree so too. -/
theorem sameBut_effect {f : SilentFlag} {s : State} {q : Flags} (h : f.clear s.p = f.clear q) {k : Kind}
    (hphp : k ≠ .php) (hbrk : k ≠ .brk) (o : Operand) : f.SameBut (k.effect o s) (k.effect o (s.setP q)) := by
  have hc : s.p.c = q.c := by simpa using congrArg Flags.c h
  have hz : s.p.z = q.z := by simpa using congrArg Flags.z h
  have hv : s.p.v = q.v := by simpa using congrArg Flags.v h
  have hn : s.p.n = q.n := by simpa using congrArg Flags.n h
  cases k with
  | php => exact absurd rfl hphp
  | brk => exact absurd rfl hbrk
  | clc | sec => exact sameBut_setP (clear_setC h _) s
  | clv => exact sameBut_setP (clear_setV h _) s
  | cli | sei => exact sameBut_setP (clear_setI h _) s
  | cld | sed => exact sameBut_setP (clear_setD h _) s
  | _ => simp [sameBut_iff, Kind.effect, State.takeSum, h, hc, hz, hv, hn]

theorem SameBut.advance {f : SilentFlag} {s t : State} (h : f.SameBut s t) (len : Nat) :
    f.SameBut (s.advance len) (t.advance len) := by
  obtain ⟨q, rfl, hq⟩ := h.exists_setP
  exact sameBut_setP hq (s.advance len)

theorem SameBut.after {f : SilentFlag} {s t : State} (h : f.SameBut s t) {i : Instr} (hphp : i.kind ≠ .php)
    (hbrk : i.kind ≠ .brk) : f.SameBut (i.after s) (i.after t) := by
  obtain ⟨q, rfl, hq⟩ := h.exists_setP
  have heffect := sameBut_effect hq hphp hbrk i.operand
  unfold Instr.after
  split
  · exact heffect
  · exact heffect.advance i.length

/-- The flag has no effect on an instruction that pushes no status byte, if it does not decide the refusal of R236. -/
theorem SameBut.goes_on {f : SilentFlag} {s t s' : State} (h : f.SameBut s t) (hr : t.refusesDecimal = s.refusesDecimal)
    {i : Instr} (hphp : i.kind ≠ .php) (hbrk : i.kind ≠ .brk) (hexec : exec i s = .next s') :
    ∃ t', exec i t = .next t' ∧ f.SameBut s' t' := by
  obtain ⟨hgo, rfl⟩ := exec_eq_next.mp hexec
  exact ⟨i.after t, exec_eq_next.mpr ⟨hr ▸ hgo, rfl⟩, h.after hphp hbrk⟩

/-! ### The pushed status byte -/

theorem getLsbD_pushed_bit (f : SilentFlag) (p : Flags) : p.pushed.getLsbD f.bit = f.value p := by
  cases f <;> simp [bit, value, Flags.getElem_pushed]

/-- Clearing the flag changes its own bit of the pushed byte only. -/
theorem getLsbD_pushed_clear (f : SilentFlag) (p : Flags) {j : Nat} (hj : j ≠ f.bit) :
    (f.clear p).pushed.getLsbD j = p.pushed.getLsbD j := by
  by_cases h8 : j < 8
  · cases f with
    | interrupt => interval_cases j <;> simp_all [bit, clear, Flags.getElem_pushed]
    | decimal => interval_cases j <;> simp_all [bit, clear, Flags.getElem_pushed]
  · rw [BitVec.getLsbD_of_ge _ _ (by omega), BitVec.getLsbD_of_ge _ _ (by omega)]

/-- Memories that agree but for a status byte pushed at `addr`, whose flags agree but for the flag, differ in its bit. -/
theorem sameMemoryButBit_of_pushed {f : SilentFlag} {p q : Flags} (h : f.clear p = f.clear q) {s t : State} {addr : Addr}
    {rest : Addr → Byte} (hs : ∀ k, s.read k = if k = addr then p.pushed else rest k)
    (ht : ∀ k, t.read k = if k = addr then q.pushed else rest k) :
    SameMemoryButBit addr f.bit s t ∧ (s.read addr).getLsbD f.bit = f.value p ∧
      (t.read addr).getLsbD f.bit = f.value q := by
  refine ⟨fun k j => ?_, ?_, ?_⟩
  · by_cases hk : k = addr
    · by_cases hj : j = f.bit
      · exact .inl ⟨hk, hj⟩
      · right
        rw [hs, ht, if_pos hk, if_pos hk, ← getLsbD_pushed_clear f p hj, h, getLsbD_pushed_clear f q hj]
    · right
      rw [hs, ht, if_neg hk, if_neg hk]
  · rw [hs, if_pos rfl, getLsbD_pushed_bit]
  · rw [ht, if_pos rfl, getLsbD_pushed_bit]

/-- PHP in two states that differ in the flag: the next states differ in it and in its bit of the pushed byte. -/
theorem SameBut.goes_on_php {f : SilentFlag} {s t s' : State} {addr : Addr} (h : f.SameBut s t)
    (hwf : Memory.wf s.mem = true) (haddr : addr.toNat = 256 + s.sp.toNat) (hexec : exec .php s = .next s') :
    ∃ t', exec .php t = .next t' ∧ f.SameBut { s' with mem := t'.mem } t' ∧ SameMemoryButBit addr f.bit s' t' ∧
      (s'.read addr).getLsbD f.bit = f.value s.p ∧ (t'.read addr).getLsbD f.bit = f.value t.p := by
  obtain ⟨-, rfl⟩ := exec_eq_next.mp hexec
  obtain ⟨q, rfl, hq⟩ := h.exists_setP
  obtain rfl : addr = stackAddr s.sp := BitVec.eq_of_toNat_eq (haddr.trans (stackAddr_toNat _).symm)
  exact ⟨_, rfl, sameBut_setP hq (Instr.php.after (s.setP q)),
    sameMemoryButBit_of_pushed hq (State.read_push8 hwf s.p.pushed) (State.read_push8 (s := s.setP q) hwf q.pushed)⟩

/-- BRK in two states that differ in the flag: the next states differ at most in it and in its bit of the byte pushed
third. -/
theorem SameBut.goes_on_brk {f : SilentFlag} {s t s' : State} {addr : Addr} (h : f.SameBut s t)
    (hwf : Memory.wf s.mem = true) (haddr : addr.toNat = 256 + (s.sp.toNat + 254) % 256)
    (hexec : exec .brk s = .next s') :
    ∃ t', exec .brk t = .next t' ∧ f.SameBut { s' with mem := t'.mem } t' ∧ SameMemoryButBit addr f.bit s' t' ∧
      (s'.read addr).getLsbD f.bit = f.value s.p ∧ (t'.read addr).getLsbD f.bit = f.value t.p := by
  obtain ⟨-, rfl⟩ := exec_eq_next.mp hexec
  obtain ⟨q, rfl, hq⟩ := h.exists_setP
  have hsp : (s.sp - 1#8 - 1#8).toNat = (s.sp.toNat + 254) % 256 := by
    simp only [BitVec.toNat_sub, BitVec.toNat_ofNat]
    omega
  obtain rfl : addr = stackAddr (s.sp - 1#8 - 1#8) := by
    apply BitVec.eq_of_toNat_eq
    rw [haddr, stackAddr_toNat, hsp]
  exact ⟨_, rfl, sameBut_setP (clear_trapEntry hq s.cfg.brkSetsI) (Instr.brk.after (s.setP q)),
    sameMemoryButBit_of_pushed hq (State.read_trapEntry hwf) (State.read_trapEntry (s := s.setP q) hwf)⟩

end SilentFlag

/-- Settles O53: I is a silent flag, and the refusal of R236 does not read it. -/
theorem theInterruptDisableFlagChangesNoInstruction : Obligations.TheInterruptDisableFlagChangesNoInstruction := by
  refine ⟨fun i s t s' h hphp hbrk hexec => ?_,
    fun s t s' addr h => SilentFlag.SameBut.goes_on_php (f := .interrupt) h,
    fun s t s' addr h => SilentFlag.SameBut.goes_on_brk (f := .interrupt) h⟩
  have hr : t.refusesDecimal = s.refusesDecimal := by rw [h.eq_setP]; rfl
  exact SilentFlag.SameBut.goes_on (SilentFlag.sameButI_iff.mp h) hr hphp hbrk hexec

/-- Settles O54: D is a silent flag, and under the binary policy nothing is refused. -/
theorem theDecimalFlagChangesNoBinaryInstruction : Obligations.TheDecimalFlagChangesNoBinaryInstruction := by
  refine ⟨fun i s t s' hbin h hphp hbrk hexec => ?_,
    fun s t s' addr h => SilentFlag.SameBut.goes_on_php (f := .decimal) h,
    fun s t s' addr h => SilentFlag.SameBut.goes_on_brk (f := .decimal) h⟩
  have hpolicy : (s.cfg.decimalPolicy == .refuse) = false := by rw [hbin]; rfl
  have hr : t.refusesDecimal = s.refusesDecimal := by
    rw [h.eq_setP]
    simp [State.refusesDecimal, hpolicy]
  exact SilentFlag.SameBut.goes_on (SilentFlag.sameButD_iff.mp h) hr hphp hbrk hexec

end Sys2Proof
end

section
/-! Decoding an encoded instruction gives it back (30_encoding.md R100, R105, R106), and so a step executes the
instruction whose bytes lie at PC. -/

namespace Sys2Proof
open Sys2Proof.Machine

/-! ### Decoding the bytes of an instruction -/

/-- Every instruction fits the table (R106, R109). The opcodes are looked up one by one, as plain bytes. -/
theorem Instr.fits (i : Instr) : Laws.Fits.Statement i := by
  cases i <;> (refine ⟨rfl, ?_, rfl⟩; dsimp only [opcodeOf]; rfl)

/-- The operand is taken back from its own bytes, whatever follows them (R105). -/
theorem takeOperand_bytes (o : Operand) (rest : List Byte) : takeOperand o.mode (o.bytes ++ rest) = some (o, rest) := by
  cases o with
  | absolute w | absoluteX w | absoluteY w | indirect w =>
    simp [Operand.mode, Operand.bytes, takeOperand, word_high_low]
  | _ => rfl

/-- The opcode byte fixes mnemonic and mode, the mode takes the operand, and both build the instruction. -/
theorem decode_encode_append (i : Instr) (rest : List Byte) : decode (encode i ++ rest) = .ok (i, rest) := by
  obtain ⟨-, hrow, hbuild⟩ := i.fits
  obtain ⟨d, hlookup, hd⟩ := Option.map_eq_some_iff.mp hrow
  obtain ⟨hkind, hmode⟩ := Prod.mk.inj hd
  have htake : takeOperand d.mode (i.operand.bytes ++ rest) = some (i.operand, rest) :=
    hmode ▸ takeOperand_bytes i.operand rest
  simp [encode, decode, hlookup, htake, hkind, hbuild]

/-! ### The bytes at PC -/

/-- No instruction is longer than the three bytes the fetch reads (R100). -/
theorem encode_length_le_three (i : Instr) : (encode i).length ≤ 3 := by
  rw [encode_length, Instr.length, Operand.length]
  cases i.operand.mode <;> decide

theorem Machine.State.fetchBytes_getElem? (s : State) {k : Nat} (hk : k < 3) :
    s.fetchBytes[k]? = some (s.read (s.pc + BitVec.ofNat 16 k)) := by
  interval_cases k <;> simp [State.fetchBytes]

/-- The fetch reads an instruction's bytes first where they lie at PC. -/
theorem encode_prefix_fetchBytes {s : State} {i : Instr}
    (h : ∀ k b, (encode i)[k]? = some b → s.read (s.pc + BitVec.ofNat 16 k) = b) : encode i <+: s.fetchBytes := by
  rw [List.prefix_iff_getElem?]
  intro k hk
  rw [s.fetchBytes_getElem? (Nat.lt_of_lt_of_le hk (encode_length_le_three i)), h k _ (List.getElem?_eq_getElem hk)]

/-- A step executes the instruction the fetched bytes decode to (R140, R141). -/
theorem step_eq_exec {s : State} {i : Instr} {rest : List Byte} (hrun : s.mode = .running)
    (hdecode : decode s.fetchBytes = .ok (i, rest)) : step s = exec i s.fetched := by
  have hfetch : s.fetchInstr = some i := by rw [State.fetchInstr, hdecode]
  rw [step_of_running hrun, hfetch]

/-- Settles O6: the three bytes at PC begin with the encoding, so they decode to the instruction. -/
theorem stepRunsTheInstructionWhoseBytesLieAtPc : Obligations.StepRunsTheInstructionWhoseBytesLieAtPc := by
  intro s i hrun hbytes
  obtain ⟨rest, hrest⟩ := encode_prefix_fetchBytes hbytes
  exact step_eq_exec hrun (hrest ▸ decode_encode_append i rest)

end Sys2Proof
end

section
/-! Words in memory: a word written and read back (20_memory.md R76, R78), and the indirect modes' pointer (R77). -/

namespace Sys2Proof

/-! ### Bytes as numbers -/

theorem lowByte_toNat (w : Addr) : (lowByte w).toNat = w.toNat % 256 := by
  simp [lowByte, BitVec.extractLsb'_toNat]

theorem highByte_toNat (w : Addr) : (highByte w).toNat = w.toNat / 256 := by
  have hw : w.toNat < 65536 := w.isLt
  simp only [highByte, BitVec.extractLsb'_toNat, Nat.shiftRight_eq_div_pow]
  omega

namespace Machine

theorem zext_eq_ofNat (b : Byte) : zext b = BitVec.ofNat 16 b.toNat := by
  apply BitVec.eq_of_toNat_eq
  simp [zext]

/-! ### Writing a word -/

/-- The bytes after a word is written: its low byte, its high byte at the next address (modulo 65536), and the others
as before (R78). -/
theorem State.read_writeWord {s : State} (h : Memory.wf s.mem = true) (addr v k : Addr) :
    (s.writeWord addr v).read k =
      if k = addr + 1#16 then highByte v else if k = addr then lowByte v else s.read k := by
  rw [State.writeWord, State.read_write (State.wf_write h _ _), State.read_write h]

theorem State.read_writeWord_low {s : State} (h : Memory.wf s.mem = true) (addr v : Addr) :
    (s.writeWord addr v).read addr = lowByte v := by
  have hne : addr ≠ addr + 1#16 := by simp
  rw [State.read_writeWord h, if_neg hne, if_pos rfl]

theorem State.read_writeWord_high {s : State} (h : Memory.wf s.mem = true) (addr v : Addr) :
    (s.writeWord addr v).read (addr + 1#16) = highByte v := by
  rw [State.read_writeWord h, if_pos rfl]

/-- R79: a word read where it was written is the word. -/
theorem State.readWord_writeWord {s : State} (h : Memory.wf s.mem = true) (addr v : Addr) :
    (s.writeWord addr v).readWord addr = v := by
  rw [State.readWord, State.read_writeWord_low h, State.read_writeWord_high h, word_high_low]

/-! ### The pointer of the indirect modes -/

/-- The pointer as a number, under both values of `ZP_PTR_WRAP` (R77). -/
theorem State.readWordZP_toNat (s : State) (ptr : Byte) :
    (s.readWordZP ptr).toNat = (s.read (BitVec.ofNat 16 ptr.toNat)).toNat + 256 *
      (s.read (BitVec.ofNat 16 (if s.cfg.zpPtrWrap then (ptr.toNat + 1) % 256 else ptr.toNat + 1))).toNat := by
  have hwrap : (ptr + 1#8).toNat = (ptr.toNat + 1) % 256 := BitVec.toNat_add ptr 1#8
  unfold State.readWordZP
  split
  · rw [word_toNat, zext_eq_ofNat, zext_eq_ofNat, hwrap, Nat.add_comm]
  · rw [word_toNat, zext_eq_ofNat, ← BitVec.ofNat_add, Nat.add_comm]

end Machine

open Sys2Proof.Machine

/-- Settles O10. -/
theorem wordWriteThenReadGivesTheWord : Obligations.WordWriteThenReadGivesTheWord := by
  intro s addr v hwf
  refine ⟨State.readWord_writeWord hwf addr v, ?_, ?_, fun k hlow hhigh => ?_⟩
  · rw [State.read_writeWord_low hwf, lowByte_toNat]
  · rw [State.read_writeWord_high hwf, highByte_toNat]
  · rw [State.read_writeWord hwf, if_neg hhigh, if_neg hlow]

/-- Settles O17, by the pointer both modes read (`State.readWordZP_toNat`). -/
theorem indirectModesReadALittleEndianPointer : Obligations.IndirectModesReadALittleEndianPointer := by
  intro zp w s
  refine ⟨⟨_, rfl, ?_⟩, ⟨_, rfl, ?_⟩, rfl⟩
  · rw [State.readWordZP_toNat, BitVec.toNat_add, Nat.mod_add_mod]
  · rw [BitVec.toNat_add, State.readWordZP_toNat, zext_eq_ofNat, BitVec.toNat_ofNat, Nat.add_mod_mod]

end Sys2Proof
end

section
/-! The instructions that leave memory alone (20_memory.md R84). -/

namespace Sys2Proof
open Sys2Proof.Machine

/-- In Accumulator mode the result is written to A (R182). -/
theorem Operand.put_mem_of_mode_accumulator {o : Operand} (h : o.mode = .accumulator) (v : Byte) (s : State) :
    (o.put v s).mem = s.mem := by
  cases o with
  | accumulator => rfl
  | _ => cases h

/-- Only stores, pushes and read-modify-writes in memory change memory. -/
theorem Kind.effect_mem {k : Kind} {o : Operand}
    (hstore : k ∉ [Kind.sta, Kind.stx, Kind.sty, Kind.inc, Kind.dec, Kind.pha, Kind.php, Kind.jsr, Kind.brk])
    (hshift : k ∈ [Kind.asl, Kind.lsr, Kind.rol, Kind.ror] → o.mode = .accumulator) (s : State) :
    (k.effect o s).mem = s.mem := by
  cases k with
  | sta | stx | sty | inc | dec | pha | php | jsr | brk => simp at hstore
  | asl | lsr | rol | ror => exact Operand.put_mem_of_mode_accumulator (hshift (by simp)) _ s
  | _ => simp [Kind.effect, State.takeSum]

/-- Settles O51, by the effect of each mnemonic. -/
theorem memoryChangesOnlyInStoresAndPushes : Obligations.MemoryChangesOnlyInStoresAndPushes := by
  intro i s t h hstore hshift
  obtain ⟨-, rfl⟩ := exec_eq_next.mp h
  rw [Instr.after_mem]
  exact Kind.effect_mem hstore hshift s

end Sys2Proof
end

section
/-! The decoder the other way round (30_encoding.md R100, R105, R106, R109): a byte list that decodes is the encoding of
what is read, followed by the rest. The opcode table is read row by row: what `build` makes from a row has the row's
opcode. -/

namespace Sys2Proof

/-! ### The operand bytes -/

/-- The operand taken has the mode asked for, and its bytes are the ones taken (R105). -/
theorem takeOperand_eq_some {m : AddrMode} {bytes rest : List Byte} {o : Operand}
    (h : takeOperand m bytes = some (o, rest)) : o.mode = m ∧ bytes = o.bytes ++ rest := by
  unfold takeOperand at h
  split at h <;> cases h <;> simp [Operand.mode, Operand.bytes, lowByte_word, highByte_word]

/-- Two bytes are enough for the operand of any mode (R101 to R103). -/
theorem length_lt_two_of_takeOperand_eq_none {m : AddrMode} {bytes : List Byte} (h : takeOperand m bytes = none) :
    bytes.length < 2 := by
  match bytes with
  | [] | [_] => simp
  | _ :: _ :: _ => cases m <;> cases h

/-! ### The rows of the table -/

/-- `build` makes the instruction with the mnemonic and operand it is given, and no other. -/
theorem build_eq_some_iff {k : Kind} {o : Operand} {i : Instr} :
    build k o = some i ↔ i.kind = k ∧ i.operand = o := by
  constructor
  · intro h
    cases k <;> cases o <;> cases h <;> exact ⟨rfl, rfl⟩
  · rintro ⟨rfl, rfl⟩
    obtain ⟨-, -, hbuild⟩ := i.fits
    exact hbuild

/-- The operand of each mode whose bytes are zero. -/
def AddrMode.zeroOperand : AddrMode → Operand
  | .immediate => .immediate 0x00#8
  | .zeroPage => .zeroPage 0x00#8
  | .zeroPageX => .zeroPageX 0x00#8
  | .zeroPageY => .zeroPageY 0x00#8
  | .absolute => .absolute 0x0000#16
  | .absoluteX => .absoluteX 0x0000#16
  | .absoluteY => .absoluteY 0x0000#16
  | .indirectX => .indirectX 0x00#8
  | .indirectY => .indirectY 0x00#8
  | .relative => .relative 0x00#8
  | .indirect => .indirect 0x0000#16
  | .accumulator => .accumulator
  | .implied => .implied

/-- The opcode of what `build` makes depends on the mnemonic and the mode, not on the operand's value (R109). -/
theorem build_map_opcodeOf (k : Kind) (o : Operand) :
    (build k o).map opcodeOf = (build k o.mode.zeroOperand).map opcodeOf := by
  cases k <;> cases o <;> rfl

/-- The 151 rows one by one: the table has the row's mnemonic in the row's mode, and `encode` gives it the row's opcode
(R109). -/
theorem opcodeRow_build_zeroOperand : ∀ n < 16, ∀ d ∈ opcodeRow n,
    (build d.kind d.mode.zeroOperand).map opcodeOf = some d.opcode := by
  decide

/-- What the look-up finds at an opcode is a row of the table with that opcode (R106). -/
theorem lookup_eq_some {opcode : Byte} {d : Descriptor} (h : lookup opcode = some d) :
    d.opcode = opcode ∧ ∃ n < 16, d ∈ opcodeRow n := by
  have hhigh : opcode.toNat / 16 < 16 := by omega
  exact ⟨by simpa using List.find?_some h, _, hhigh, List.mem_of_find?_eq_some h⟩

/-- With an operand of its mode, a row of the table makes an instruction, and the instruction has the row's opcode. -/
theorem build_of_lookup {opcode : Byte} {d : Descriptor} (h : lookup opcode = some d) {o : Operand}
    (hmode : o.mode = d.mode) : ∃ i, build d.kind o = some i ∧ opcodeOf i = opcode := by
  obtain ⟨rfl, n, hn, hd⟩ := lookup_eq_some h
  rw [← Option.map_eq_some_iff, build_map_opcodeOf, hmode]
  exact opcodeRow_build_zeroOperand n hn d hd

/-! ### What the decoder answers -/

theorem decode_of_lookup_eq_none {opcode : Byte} (h : lookup opcode = none) (tail : List Byte) :
    decode (opcode :: tail) = .error (.unsupportedOpcode opcode) := by
  simp [decode, h]

/-- The opcode has no row, or operand bytes are missing, or the bytes begin with the encoding of an instruction. -/
theorem decode_cons_cases (opcode : Byte) (tail : List Byte) :
    (lookup opcode = none ∧ decode (opcode :: tail) = .error (.unsupportedOpcode opcode)) ∨
    (tail.length < 2 ∧ decode (opcode :: tail) = .error (.truncated opcode)) ∨
    ∃ i rest, opcode :: tail = encode i ++ rest := by
  cases hlookup : lookup opcode with
  | none => exact .inl ⟨rfl, decode_of_lookup_eq_none hlookup tail⟩
  | some d =>
    cases htake : takeOperand d.mode tail with
    | none => exact .inr (.inl ⟨length_lt_two_of_takeOperand_eq_none htake, by simp [decode, hlookup, htake]⟩)
    | some taken =>
      obtain ⟨o, rest⟩ := taken
      obtain ⟨hmode, rfl⟩ := takeOperand_eq_some htake
      obtain ⟨i, hbuild, hopcode⟩ := build_of_lookup hlookup hmode
      obtain ⟨-, hoperand⟩ := build_eq_some_iff.mp hbuild
      exact .inr (.inr ⟨i, rest, by simp [encode, hopcode, hoperand]⟩)

/-- The round trip in both directions: `decode` reads an instruction exactly from its encoding. -/
theorem decode_eq_ok_iff {bytes rest : List Byte} {i : Instr} :
    decode bytes = .ok (i, rest) ↔ bytes = encode i ++ rest := by
  constructor
  · intro h
    cases bytes with
    | nil => cases h
    | cons opcode tail =>
      obtain ⟨-, herr⟩ | ⟨-, herr⟩ | ⟨j, rest', hbytes⟩ := decode_cons_cases opcode tail
      · cases h.symm.trans herr
      · cases h.symm.trans herr
      · rw [hbytes, decode_encode_append] at h
        cases h
        exact hbytes
  · rintro rfl
    exact decode_encode_append i rest

/-- With two bytes after the opcode the operand is there, so the one error left is the opcode without a row (R120). -/
theorem decode_eq_error_iff {opcode : Byte} {tail : List Byte} (hlen : 2 ≤ tail.length) {e : DecodeError} :
    decode (opcode :: tail) = .error e ↔ lookup opcode = none ∧ e = .unsupportedOpcode opcode := by
  constructor
  · intro h
    obtain ⟨hnone, herr⟩ | ⟨hshort, -⟩ | ⟨i, rest, hbytes⟩ := decode_cons_cases opcode tail
    · cases h.symm.trans herr
      exact ⟨hnone, rfl⟩
    · omega
    · cases h.symm.trans (decode_eq_ok_iff.mpr hbytes)
  · rintro ⟨hnone, rfl⟩
    exact decode_of_lookup_eq_none hnone tail

/-! ### The bytes without a row -/

/-- The 105 bytes of R120 (decision D12). -/
def unsupportedOpcodes : List Byte :=
  [0x02#8, 0x03#8, 0x04#8, 0x07#8, 0x0B#8, 0x0C#8, 0x0F#8, 0x12#8, 0x13#8, 0x14#8, 0x17#8, 0x1A#8, 0x1B#8, 0x1C#8,
    0x1F#8, 0x22#8, 0x23#8, 0x27#8, 0x2B#8, 0x2F#8, 0x32#8, 0x33#8, 0x34#8, 0x37#8, 0x3A#8, 0x3B#8, 0x3C#8, 0x3F#8,
    0x42#8, 0x43#8, 0x44#8, 0x47#8, 0x4B#8, 0x4F#8, 0x52#8, 0x53#8, 0x54#8, 0x57#8, 0x5A#8, 0x5B#8, 0x5C#8, 0x5F#8,
    0x62#8, 0x63#8, 0x64#8, 0x67#8, 0x6B#8, 0x6F#8, 0x72#8, 0x73#8, 0x74#8, 0x77#8, 0x7A#8, 0x7B#8, 0x7C#8, 0x7F#8,
    0x80#8, 0x82#8, 0x83#8, 0x87#8, 0x89#8, 0x8B#8, 0x8F#8, 0x92#8, 0x93#8, 0x97#8, 0x9B#8, 0x9C#8, 0x9E#8, 0x9F#8,
    0xA3#8, 0xA7#8, 0xAB#8, 0xAF#8, 0xB2#8, 0xB3#8, 0xB7#8, 0xBB#8, 0xBF#8, 0xC2#8, 0xC3#8, 0xC7#8, 0xCB#8, 0xCF#8,
    0xD2#8, 0xD3#8, 0xD4#8, 0xD7#8, 0xDA#8, 0xDB#8, 0xDC#8, 0xDF#8, 0xE2#8, 0xE3#8, 0xE7#8, 0xEB#8, 0xEF#8, 0xF2#8,
    0xF3#8, 0xF4#8, 0xF7#8, 0xFA#8, 0xFB#8, 0xFC#8, 0xFF#8]

/-- All 256 bytes looked up, in order: the list is the bytes that have no row. -/
theorem filter_lookup_eq_none :
    ((List.range 256).map (BitVec.ofNat 8)).filter (fun b => (lookup b).isNone) = unsupportedOpcodes := by
  decide +kernel

theorem lookup_eq_none_iff (opcode : Byte) : lookup opcode = none ↔ opcode ∈ unsupportedOpcodes := by
  have hmem : opcode ∈ (List.range 256).map (BitVec.ofNat 8) :=
    List.mem_map.mpr ⟨opcode.toNat, List.mem_range.mpr opcode.isLt, BitVec.ofNat_toNat 8 opcode⟩
  simp [← filter_lookup_eq_none, List.mem_filter, hmem]

end Sys2Proof
end

section
/-! The statements about the encoding: the round trip, the rejected opcodes, and what the fetch makes of the bytes at
PC (30_encoding.md R105, R120, R121; 40_execution_loop.md R142). -/

namespace Sys2Proof
open Sys2Proof.Machine

/-! ### The decoder -/

/-- Settles O1: the opcode fixes mnemonic and mode, and the operand is taken back from its bytes. -/
theorem decodeOfEncodeIsTheInstruction : Obligations.DecodeOfEncodeIsTheInstruction :=
  decode_encode_append

/-- Settles O2, the other direction of the round trip (`decode_eq_ok_iff`), by the cases of the decoder's answer. -/
theorem bytesOfADecodedInstructionAreItsEncoding : Obligations.BytesOfADecodedInstructionAreItsEncoding :=
  fun _ _ _ => decode_eq_ok_iff.mp

/-- Settles O3: the one error left is an opcode without a row, and those are the 105 bytes. -/
theorem opcodesTheDecoderRejectsAreThe105Unsupported : Obligations.OpcodesTheDecoderRejectsAreThe105Unsupported := by
  intro opcode rest hlen
  refine ⟨Iff.trans ?_ (lookup_eq_none_iff opcode), fun e he => ((decode_eq_error_iff hlen).mp he).2⟩
  simp [decode_eq_error_iff hlen]

/-- Settles O4: each word is the encoding of its instruction. -/
theorem wordsOfTheSpecDecodeToTheirInstructions : Obligations.WordsOfTheSpecDecodeToTheirInstructions := by
  refine ⟨?_, ?_, ?_, ?_, ?_, ?_, ?_, ?_, ?_, ?_, ?_, ?_, ?_, ?_, ?_⟩ <;> exact decode_eq_ok_iff.mpr rfl

/-! ### The fetch -/

/-- The bytes fetched begin with the encoding of the instruction at PC. -/
theorem fetchBytes_of_fetchInstr {s : State} {i : Instr} (h : s.fetchInstr = some i) :
    ∃ rest, s.fetchBytes = encode i ++ rest := by
  unfold State.fetchInstr at h
  split at h
  · next j rest hdecode =>
    cases h
    exact ⟨rest, decode_eq_ok_iff.mp hdecode⟩
  · cases h

/-- The operand bytes of the instruction at PC are the first of the two bytes after its opcode. -/
theorem operand_bytes_of_fetchInstr {s : State} {i : Instr} (h : s.fetchInstr = some i) :
    ∃ rest, [s.read (s.pc + 1#16), s.read (s.pc + 2#16)] = i.operand.bytes ++ rest := by
  obtain ⟨rest, hrest⟩ := fetchBytes_of_fetchInstr h
  exact ⟨rest, (List.cons.inj hrest).2⟩

/-- An operand of one byte is the byte at PC + 1 (R102). -/
theorem operand_byte_of_fetchInstr {s : State} {i : Instr} (h : s.fetchInstr = some i) {v : Byte}
    (hv : i.operand.bytes = [v]) : v = s.read (s.pc + 1#16) := by
  obtain ⟨rest, hrest⟩ := operand_bytes_of_fetchInstr h
  rw [hv] at hrest
  exact (List.cons.inj hrest).1.symm

/-- An operand of two bytes is the little-endian word at PC + 1 (R103). -/
theorem operand_word_of_fetchInstr {s : State} {i : Instr} (h : s.fetchInstr = some i) {w : Addr}
    (hw : i.operand.bytes = [lowByte w, highByte w]) :
    w = word (s.read (s.pc + 2#16)) (s.read (s.pc + 1#16)) := by
  obtain ⟨rest, hrest⟩ := operand_bytes_of_fetchInstr h
  rw [hw] at hrest
  obtain ⟨hlow, hhigh, -⟩ : _ ∧ _ ∧ _ := by simpa using hrest
  rw [hlow, hhigh, word_high_low]

/-- Settles O7: each form of operand has one byte or two, low byte first. -/
theorem fetchedOperandsAreTheBytesAfterTheOpcode : Obligations.FetchedOperandsAreTheBytesAfterTheOpcode := by
  intro s i h
  refine ⟨fun v hv => ⟨?_, ?_⟩, fun v hv => ?_, fun w hw => ?_⟩
  · exact operand_byte_of_fetchInstr h (congrArg Operand.bytes hv)
  · rw [hv]; rfl
  · refine operand_byte_of_fetchInstr h ?_
    obtain hv | hv | hv | hv | hv | hv := hv <;> exact congrArg Operand.bytes hv
  · have hbytes : i.operand.bytes = [lowByte w, highByte w] := by
      obtain hw | hw | hw | hw := hw <;> exact congrArg Operand.bytes hw
    rw [operand_word_of_fetchInstr h hbytes, word_toNat]

/-- Settles O8: the byte has no row, so nothing is decoded and the step raises the fault of the fetch. -/
theorem anUnsupportedOpcodeFaultsPrecisely : Obligations.AnUnsupportedOpcodeFaultsPrecisely := by
  intro s hrun hmem
  have hdecode : decode s.fetchBytes = .error (.unsupportedOpcode (s.read s.pc)) :=
    decode_of_lookup_eq_none ((lookup_eq_none_iff _).mpr hmem) _
  have hfetch : s.fetchInstr = none := by rw [State.fetchInstr, hdecode]
  rw [step_of_running hrun, hfetch]
  rfl

end Sys2Proof
end

section
/-! The execution loop: what ends the loop of R379, what a run without an end looks like, and the statements about one
step and about a run (40_execution_loop.md R140 to R155). -/

namespace Sys2Proof
open Sys2Proof.Machine

/-! ### The opcode byte of the fetch -/

/-- The opcode of the instruction at PC is the byte at PC (R100). -/
theorem opcodeOf_of_fetchInstr {s : State} {i : Instr} (h : s.fetchInstr = some i) : opcodeOf i = s.read s.pc := by
  obtain ⟨rest, hrest⟩ := fetchBytes_of_fetchInstr h
  exact (List.cons.inj hrest).1.symm

/-- BRK has the opcode byte 0x00, and no other instruction has it (R109). -/
theorem opcodeOf_eq_zero_iff (i : Instr) : opcodeOf i = 0x00#8 ↔ i.kind = .brk := by
  cases i with
  | brk => exact iff_of_true rfl rfl
  | _ => exact iff_of_false (by simp [opcodeOf]) (by simp [Instr.kind])

/-! ### No instruction writes the parameters -/

@[simp] theorem Machine.State.branched_cfg (s : State) (c : Bool) (o : Operand) : (s.branched c o).cfg = s.cfg := by
  cases c <;> rfl

@[simp] theorem Operand.put_cfg (o : Operand) (v : Byte) (s : State) : (o.put v s).cfg = s.cfg := by cases o <;> rfl

@[simp] theorem Instr.after_cfg (i : Instr) (s : State) : (i.after s).cfg = (i.kind.effect i.operand s).cfg := by
  unfold Instr.after; split <;> rfl

theorem Kind.effect_cfg (k : Kind) (o : Operand) (s : State) : (k.effect o s).cfg = s.cfg := by
  cases k <;> simp [Kind.effect, State.takeSum]

/-! ### One step -/

/-- A step that goes on leaves the mode to the byte at PC: Halted after 0x00, Running after any other (R147). -/
theorem mode_of_step_eq_next {s t : State} (h : step s = .next t) :
    t.mode = if s.read s.pc = 0x00#8 then .halted else .running := by
  obtain ⟨hrun, i, hfetch, hexec⟩ := step_eq_next h
  obtain ⟨-, rfl⟩ := exec_eq_next.mp hexec
  rw [Instr.after_mode, Kind.effect_mode, State.fetched_mode, hrun]
  simp only [← opcodeOf_of_fetchInstr hfetch, opcodeOf_eq_zero_iff]

/-- Settles O46: only the effect of BRK writes the mode, and no effect writes the fault report or the parameters. -/
theorem onlyBrkHaltsTheLoop : Obligations.OnlyBrkHaltsTheLoop := by
  intro s t h
  have hmode := mode_of_step_eq_next h
  obtain ⟨-, i, -, hexec⟩ := step_eq_next h
  obtain ⟨-, rfl⟩ := exec_eq_next.mp hexec
  refine ⟨fun hbrk => hmode.trans (if_pos hbrk), fun hother => hmode.trans (if_neg hother), ?_, ?_⟩
  · rw [Instr.after_fault, Kind.effect_fault, State.fetched_fault]
  · rw [Instr.after_cfg, Kind.effect_cfg, State.fetched_cfg]

/-- Settles O5. -/
theorem stepRunsTheDecodedInstruction : Obligations.StepRunsTheDecodedInstruction :=
  fun _ _ _ hrun hdecode => step_eq_exec hrun hdecode

/-- Settles O9. -/
theorem noStepIsEnabledUnlessRunning : Obligations.NoStepIsEnabledUnlessRunning := by
  rintro s (hmode | hmode) <;> exact step_of_not_running (by simp [hmode])

/-! ### The loop -/

/-- What ends the loop within one step more (R379): this step, by the BRK halt or because it does not go on, or the loop
from the next state. -/
theorem runLoop_succ_eq_some {fuel : Nat} {s : State} {o : Host.Outcome State Fault Refusal} :
    runLoop (fuel + 1) s = some o ↔
      (step s = o ∧ ∀ t, o = .next t → t.mode = .halted) ∨
        ∃ t, step s = .next t ∧ t.mode ≠ .halted ∧ runLoop fuel t = some o := by
  rw [runLoop]
  cases step s with
  | next t =>
    by_cases hmode : t.mode = .halted
    · have hend : .next t = o → ∀ u, o = .next u → u.mode = .halted := by
        rintro rfl _ ⟨⟩
        exact hmode
      simpa [hmode] using hend
    · have hgoes : .next t = o → (∀ u, o = .next u → u.mode = .halted) → runLoop fuel t = some o :=
        fun ho h => absurd (h t ho.symm) hmode
      simpa [hmode] using hgoes
  | fault f =>
    have hend : .fault f = o → ∀ u, o = .next u → u.mode = .halted := by rintro rfl _ ⟨⟩
    simpa using hend
  | refused r =>
    have hend : .refused r = o → ∀ u, o = .next u → u.mode = .halted := by rintro rfl _ ⟨⟩
    simpa using hend

/-- An end of the loop stays its end under every larger bound. -/
theorem runLoop_mono {m n : Nat} {s : State} {o : Host.Outcome State Fault Refusal} (h : runLoop m s = some o)
    (hle : m ≤ n) : runLoop n s = some o := by
  induction m generalizing s n with
  | zero => cases h
  | succ m ih =>
    obtain ⟨n, rfl⟩ : ∃ k, n = k + 1 := ⟨n - 1, by omega⟩
    obtain hend | ⟨t, hstep, hmode, hrest⟩ := runLoop_succ_eq_some.mp h
    · exact runLoop_succ_eq_some.mpr (.inl hend)
    · exact runLoop_succ_eq_some.mpr (.inr ⟨t, hstep, hmode, ih hrest (by omega)⟩)

/-- A loop that ends in a next state ends in a Halted one (R150). -/
theorem halted_of_runLoop {fuel : Nat} {s t : State} (h : runLoop fuel s = some (.next t)) : t.mode = .halted := by
  induction fuel generalizing s with
  | zero => cases h
  | succ fuel ih =>
    obtain ⟨-, hhalted⟩ | ⟨u, -, -, hrest⟩ := runLoop_succ_eq_some.mp h
    · exact hhalted t rfl
    · exact ih hrest

/-- A step from a Running state to itself is taken again for ever. -/
theorem runLoop_eq_none_of_step_self {s : State} (hstep : step s = .next s) (fuel : Nat) : runLoop fuel s = none := by
  obtain ⟨hrun, -⟩ := step_eq_next hstep
  induction fuel with
  | zero => rfl
  | succ fuel ih => simp [runLoop, hstep, hrun, ih]

/-! ### The run -/

theorem hostRun_of_faulted {s : State} (h : s.mode = .faulted) (fuel : Nat) :
    hostRun fuel s = some (.refused .hostOnFaulted) := if_pos h

theorem hostRun_of_not_faulted {s : State} (h : s.mode ≠ .faulted) (fuel : Nat) :
    hostRun fuel s = runLoop fuel s.resume := if_neg h

theorem hostRun_mono {m n : Nat} {s : State} {o : Host.Outcome State Fault Refusal} (h : hostRun m s = some o)
    (hle : m ≤ n) : hostRun n s = some o := by
  by_cases hmode : s.mode = .faulted
  · rwa [hostRun_of_faulted hmode] at h ⊢
  · rw [hostRun_of_not_faulted hmode] at h ⊢
    exact runLoop_mono h hle

/-- Two ends are both the end under the larger of their bounds. -/
theorem Machine.RunEnds.unique {s : State} {o o' : Host.Outcome State Fault Refusal} (h : RunEnds s o) (h' : RunEnds s o') :
    o = o' := by
  obtain ⟨m, hm⟩ := h
  obtain ⟨n, hn⟩ := h'
  have hmax : some o = some o' :=
    (hostRun_mono hm (Nat.le_max_left m n)).symm.trans (hostRun_mono hn (Nat.le_max_right m n))
  exact Option.some.inj hmax

theorem Machine.RunSucceeds.halted {s t : State} (h : RunSucceeds s t) : t.mode = .halted := by
  obtain ⟨fuel, hrun⟩ := h
  by_cases hmode : s.mode = .faulted
  · rw [hostRun_of_faulted hmode] at hrun
    cases hrun
  · rw [hostRun_of_not_faulted hmode] at hrun
    exact halted_of_runLoop hrun

/-- Settles O59. -/
theorem aRunHasOneEnd : Obligations.ARunHasOneEnd :=
  ⟨fun _ _ _ _ => hostRun_mono, fun _ _ _ => RunEnds.unique, fun _ _ => RunSucceeds.halted⟩

/-! ### The jump to itself -/

@[simp] theorem Machine.State.resume_pc (s : State) : s.resume.pc = s.pc := by
  unfold State.resume; split <;> rfl

@[simp] theorem Machine.State.read_resume (s : State) (k : Addr) : s.resume.read k = s.read k := by
  unfold State.resume; split <;> rfl

/-- Unless it is Faulted, a state is Running when its run begins (R379). -/
theorem Machine.State.resume_mode {s : State} (h : s.mode ≠ .faulted) : s.resume.mode = .running := by
  unfold State.resume
  cases hmode : s.mode with
  | running => simp [hmode]
  | halted => rfl
  | faulted => exact absurd hmode h

/-- The bytes of `JMP $nnnn`, low byte first, as numbers (R103, R289). -/
theorem encode_jmpAbs (w : Addr) :
    encode (.jmpAbs w) = [0x4C#8, BitVec.ofNat 8 w.toNat, BitVec.ofNat 8 (w.toNat / 256)] := by
  have hlow : lowByte w = BitVec.ofNat 8 w.toNat := BitVec.eq_of_toNat_eq (lowByte_toNat w)
  have hhigh : highByte w = BitVec.ofNat 8 (w.toNat / 256) := by
    rw [← highByte_toNat, BitVec.ofNat_toNat, BitVec.setWidth_eq]
  rw [← hlow, ← hhigh]
  rfl

/-- A Running state that stands at a JMP to its own address steps to itself (R289): the jump undoes the fetch's advance
of PC. -/
theorem step_jmp_self {s : State} (hrun : s.mode = .running) (hbytes : s.fetchBytes = encode (.jmpAbs s.pc)) :
    step s = .next s :=
  step_eq_exec hrun (decode_eq_ok_iff.mpr (hbytes.trans (List.append_nil _).symm))

/-- Settles O60: the run resumes the state, and the resumed state steps to itself. -/
theorem aJumpToItselfHangs : Obligations.AJumpToItselfHangs := by
  intro s hmode hopcode hlow hhigh fuel
  have hbytes : s.resume.fetchBytes = encode (.jmpAbs s.resume.pc) := by
    simp [State.fetchBytes, encode_jmpAbs, hopcode, hlow, hhigh]
  rw [hostRun_of_not_faulted hmode]
  exact runLoop_eq_none_of_step_self (step_jmp_self (State.resume_mode hmode) hbytes) fuel

end Sys2Proof
end

section
/-! The addressing modes (41_addressing_modes.md R170 to R185): the effective addresses as numbers, which mnemonics use
which mode, and the operand access helpers. -/

namespace Sys2Proof
open Sys2Proof.Machine

/-! ### Effective addresses as numbers -/

theorem Machine.zext_toNat (b : Byte) : (zext b).toNat = b.toNat :=
  BitVec.toNat_setWidth_of_le (by decide)

/-- A zero-page index wraps within the byte, before the address is made (R173, R174). -/
theorem Machine.zext_add_toNat (b index : Byte) : (zext (b + index)).toNat = (b.toNat + index.toNat) % 256 := by
  rw [zext_toNat, BitVec.toNat_add]

/-- An absolute index wraps within the address (R176, R177). -/
theorem Machine.add_zext_toNat (w : Addr) (index : Byte) :
    (w + zext index).toNat = (w.toNat + index.toNat) % 65536 := by
  rw [BitVec.toNat_add, zext_toNat]

/-- Adding a displacement adds its two's complement value, modulo 65536 (R180). -/
theorem Machine.add_sext_toNat (w : Addr) (d : Byte) : ((w + sext d).toNat : Int) = (w.toNat + d.toInt) % 65536 := by
  have hsext : ((sext d).toNat : Int) = d.toInt % 65536 := by
    rw [sext, BitVec.signExtend, BitVec.toNat_ofInt]
    omega
  rw [BitVec.toNat_add]
  omega

/-- Settles O18. -/
theorem relativeTargetIsNextInstructionPlusDisplacement :
    Obligations.RelativeTargetIsNextInstructionPlusDisplacement := by
  intro d s
  refine ⟨_, rfl, ?_⟩
  have hnext : (s.pc + 1#16).toNat = (s.pc.toNat + 1) % 65536 := BitVec.toNat_add s.pc 1#16
  rw [add_sext_toNat, hnext]
  omega

/-! ### Which mnemonics use a mode -/

/-- The table makes an instruction from a mnemonic and an operand exactly in the mnemonic's modes (R109). -/
theorem build_isSome_eq (k : Kind) (o : Operand) : (build k o).isSome = k.modes.contains o.mode := by
  cases k <;> cases o <;> rfl

/-- A mnemonic has an instruction with an operand exactly if it has the operand's mode, whatever the operand's value. -/
theorem Instr.exists_kind_operand_iff (k : Kind) (o : Operand) :
    (∃ i : Instr, i.kind = k ∧ i.operand = o) ↔ o.mode ∈ k.modes := by
  simp only [← build_eq_some_iff, ← Option.isSome_iff_exists, build_isSome_eq, List.contains_iff_mem]

/-- The two instructions of ZeroPageY mode and their opcodes (R174). -/
theorem Instr.opcodeOf_of_operand_zeroPageY {i : Instr} {zp : Byte} (h : i.operand = .zeroPageY zp) :
    (i.kind = .ldx ∧ opcodeOf i = 0xB6#8) ∨ (i.kind = .stx ∧ opcodeOf i = 0x96#8) := by
  cases i with
  | ldxZpY => exact .inl ⟨rfl, rfl⟩
  | stxZpY => exact .inr ⟨rfl, rfl⟩
  | _ => cases h

/-- Settles O15: the used-by lists are read off each mnemonic's modes. -/
theorem zeroPageModesStayInPageZero : Obligations.ZeroPageModesStayInPageZero := by
  refine ⟨fun zp s => ⟨_, rfl, zext_toNat zp⟩, fun zp s => ⟨_, rfl, zext_add_toNat zp s.x⟩,
    fun zp s => ⟨_, rfl, zext_add_toNat zp s.y⟩, fun k zp => ?_, fun k zp => ?_,
    fun i zp => Instr.opcodeOf_of_operand_zeroPageY⟩
  · rw [Instr.exists_kind_operand_iff, Operand.mode]
    cases k <;> decide
  · rw [Instr.exists_kind_operand_iff, Operand.mode]
    cases k <;> decide

/-- Settles O16: the used-by lists are read off each mnemonic's modes. -/
theorem absoluteIndexedModesWrapAt16Bits : Obligations.AbsoluteIndexedModesWrapAt16Bits := by
  refine ⟨fun w s => ⟨w, rfl, rfl⟩, fun w s => ⟨_, rfl, add_zext_toNat w s.x⟩,
    fun w s => ⟨_, rfl, add_zext_toNat w s.y⟩, fun k w => ?_, fun k w => ?_⟩
  · rw [Instr.exists_kind_operand_iff, Operand.mode]
    cases k <;> decide
  · rw [Instr.exists_kind_operand_iff, Operand.mode]
    cases k <;> decide

/-! ### Operand access -/

/-- The two modes that are not resolved (R182, R183). -/
theorem Machine.resolve_eq_none_iff (o : Operand) (s : State) :
    resolve o s = none ↔ o = .accumulator ∨ o = .implied := by
  cases o <;> simp [resolve]

/-- Every mode with an address but Immediate reads the byte there (R185). -/
theorem Machine.readOperand_of_resolve {o : Operand} {s : State} {ea : Addr} (h : resolve o s = some ea)
    (himm : ∀ m, o ≠ .immediate m) : readOperand o s = some (s.read ea) := by
  cases o with
  | immediate v => exact absurd rfl (himm v)
  | accumulator => cases h
  | _ => exact congrArg (Option.map s.read) h

/-- Every mode with an address writes the byte back there (R185). -/
theorem Machine.writeBack_of_resolve {o : Operand} {s : State} {ea : Addr} (h : resolve o s = some ea) (v : Byte) :
    writeBack o v s = some (s.write ea v) := by
  cases o with
  | accumulator => cases h
  | _ => exact congrArg (Option.map fun addr => s.write addr v) h

/-- Settles O19. -/
theorem operandAccessFollowsTheMode : Obligations.OperandAccessFollowsTheMode :=
  fun o s v => ⟨resolve_eq_none_iff o s, rfl, rfl, fun _ => readOperand_of_resolve, rfl,
    fun _ h => writeBack_of_resolve h v⟩

end Sys2Proof
end

section
/-! What the instructions of one mnemonic share: their rows of the table (30_encoding.md R109), whether they have an
operand byte and an address (41_addressing_modes.md R185), and what they do (40_execution_loop.md R146). -/

namespace Sys2Proof
open Sys2Proof.Machine

/-! ### The instructions of one mnemonic -/

/-- The opcodes of a mnemonic, each with its mode (R109). -/
def Kind.rows (k : Kind) : List (Byte × AddrMode) :=
  k.modes.filterMap fun m => (build k m.zeroOperand).map fun i => (opcodeOf i, m)

/-- The mode of an instruction is one its mnemonic has (R109). -/
theorem Instr.mode_mem_modes {i : Instr} {k : Kind} (hk : i.kind = k) : i.mode ∈ k.modes := by
  obtain ⟨hwf, -, -⟩ := i.fits
  exact hk ▸ List.contains_iff_mem.mp hwf

/-- The opcode of an instruction is the one its mnemonic has in its mode (R109). -/
theorem Instr.opcodeOf_mode_mem_rows {i : Instr} {k : Kind} (hk : i.kind = k) : (opcodeOf i, i.mode) ∈ k.rows := by
  have hopcode : (build k i.mode.zeroOperand).map opcodeOf = some (opcodeOf i) := by
    rw [Instr.mode, ← build_map_opcodeOf, build_eq_some_iff.mpr ⟨hk, rfl⟩, Option.map_some]
  obtain ⟨j, hj, hji⟩ := Option.map_eq_some_iff.mp hopcode
  exact List.mem_filterMap.mpr ⟨i.mode, Instr.mode_mem_modes hk, by rw [hj, ← hji, Option.map_some]⟩

/-- Every mode but Implied has an operand byte (R185). -/
theorem Operand.readOperand_eq_byteIn {o : Operand} (h : o.mode ≠ .implied) (s : State) :
    readOperand o s = some (o.byteIn s) := by
  cases o with
  | implied => exact absurd rfl h
  | _ => rfl

/-- Every mode but Accumulator and Implied has an effective address (R170, R182, R183). -/
theorem Operand.resolve_eq_addrIn {o : Operand} (hacc : o.mode ≠ .accumulator) (himp : o.mode ≠ .implied) (s : State) :
    resolve o s = some (o.addrIn s) := by
  cases o with
  | accumulator => exact absurd rfl hacc
  | implied => exact absurd rfl himp
  | _ => rfl

theorem Instr.readOperand_of_kind {i : Instr} {k : Kind} (hk : i.kind = k) (himp : AddrMode.implied ∉ k.modes)
    (s : State) : readOperand i.operand s = some (i.operand.byteIn s) :=
  Operand.readOperand_eq_byteIn (ne_of_mem_of_not_mem (mode_mem_modes hk) himp) s

theorem Instr.resolve_of_kind {i : Instr} {k : Kind} (hk : i.kind = k) (hacc : AddrMode.accumulator ∉ k.modes)
    (himp : AddrMode.implied ∉ k.modes) (s : State) : resolve i.operand s = some (i.operand.addrIn s) :=
  Operand.resolve_eq_addrIn (ne_of_mem_of_not_mem (mode_mem_modes hk) hacc)
    (ne_of_mem_of_not_mem (mode_mem_modes hk) himp) s

/-- An instruction that neither sets PC nor reads D completes: its effect, then the generic advance (R146). -/
theorem exec_of_kind {i : Instr} {k : Kind} (hk : i.kind = k) (hset : k.setsPC = false) (hdec : k.readsDecimal = false)
    (s : State) : exec i s = .next ((k.effect i.operand s).advance i.length) := by
  subst hk
  exact exec_eq_next.mpr ⟨by rw [hdec, Bool.false_and], by rw [Instr.after, hset]; rfl⟩

/-! ### Instructions of one byte -/

/-- The fetch has counted the only byte, so PC stays one past the opcode (R146). -/
theorem Machine.State.advance_one (s : State) : s.advance 1 = s := by
  have hpc : s.pc + BitVec.ofNat 16 (1 - 1) = s.pc := BitVec.add_zero s.pc
  rw [State.advance, hpc]
  rfl

/-- An instruction of one byte that neither sets PC nor reads D completes with its effect alone. -/
theorem exec_of_length_one {i : Instr} (hlen : i.length = 1) (hset : i.kind.setsPC = false)
    (hdec : i.kind.readsDecimal = false) (s : State) : exec i s = .next (i.kind.effect i.operand s) := by
  rw [exec_of_kind rfl hset hdec, hlen, State.advance_one]

end Sys2Proof
end

section
/-! Loads, stores and transfers (42_load_store_transfer.md R200 to R211). -/

namespace Sys2Proof
open Sys2Proof.Machine

/-- Settles O20: each load is its effect on the operand byte, then the generic advance. -/
theorem loadsPutTheOperandInTheirRegister : Obligations.LoadsPutTheOperandInTheirRegister :=
  ⟨fun i s h => ⟨Instr.opcodeOf_mode_mem_rows h, i.operand.byteIn s, Instr.readOperand_of_kind h (by decide) s,
      exec_of_kind h rfl rfl s⟩,
    fun i s h => ⟨Instr.opcodeOf_mode_mem_rows h, i.operand.byteIn s, Instr.readOperand_of_kind h (by decide) s,
      exec_of_kind h rfl rfl s⟩,
    fun i s h => ⟨Instr.opcodeOf_mode_mem_rows h, i.operand.byteIn s, Instr.readOperand_of_kind h (by decide) s,
      exec_of_kind h rfl rfl s⟩⟩

/-- An instruction that writes `v` at its address and advances stores that byte and changes nothing else but PC. -/
theorem exec_store_spec {i : Instr} {s : State} {addr : Addr} {v : Byte} (hwf : Memory.wf s.mem = true)
    (haddr : resolve i.operand s = some addr) (hexec : exec i s = .next ((s.write addr v).advance i.length)) :
    ∃ ea t, resolve i.operand s = some ea ∧ exec i s = .next t ∧ t.read ea = v ∧
      (∀ k, k ≠ ea → t.read k = s.read k) ∧
      t = { s with mem := t.mem, pc := s.pc + BitVec.ofNat 16 (i.length - 1) } := by
  refine ⟨addr, _, haddr, hexec, ?_, fun k hne => ?_, rfl⟩
  · rw [State.read_advance, State.read_write_same hwf]
  · rw [State.read_advance, State.read_write_other s hne]

/-- Settles O21: each store writes its register at its address, then receives the generic advance. -/
theorem storesWriteTheRegisterAtTheirAddress : Obligations.StoresWriteTheRegisterAtTheirAddress :=
  ⟨fun _ s h hwf => ⟨Instr.opcodeOf_mode_mem_rows h,
      exec_store_spec hwf (Instr.resolve_of_kind h (by decide) (by decide) s) (exec_of_kind h rfl rfl s)⟩,
    fun _ s h hwf => ⟨Instr.opcodeOf_mode_mem_rows h,
      exec_store_spec hwf (Instr.resolve_of_kind h (by decide) (by decide) s) (exec_of_kind h rfl rfl s)⟩,
    fun _ s h hwf => ⟨Instr.opcodeOf_mode_mem_rows h,
      exec_store_spec hwf (Instr.resolve_of_kind h (by decide) (by decide) s) (exec_of_kind h rfl rfl s)⟩⟩

/-- Settles O22: each transfer has one byte, so its effect is all it does. -/
theorem transfersCopyARegister : Obligations.TransfersCopyARegister :=
  fun s => ⟨⟨rfl, exec_of_length_one rfl rfl rfl s⟩, ⟨rfl, exec_of_length_one rfl rfl rfl s⟩,
    ⟨rfl, exec_of_length_one rfl rfl rfl s⟩, ⟨rfl, exec_of_length_one rfl rfl rfl s⟩,
    ⟨rfl, exec_of_length_one rfl rfl rfl s⟩, ⟨rfl, exec_of_length_one rfl rfl rfl s⟩⟩

end Sys2Proof
end

section
/-! Arithmetic and logic (43_arithmetic_logic.md R230 to R236): the adder in numbers, the one refusal, and the next
state of each instruction. -/

namespace Sys2Proof
open Sys2Proof.Machine

/-! ### The adder in numbers (R230) -/

theorem Machine.addC_value_toNat (x y : Byte) (cin : Bool) :
    (addC x y cin).value.toNat = (x.toNat + y.toNat + cin.toNat) % 256 :=
  BitVec.toNat_ofNat _ 8

theorem Machine.addC_carry_iff (x y : Byte) (cin : Bool) :
    (addC x y cin).carry = true ↔ 256 ≤ x.toNat + y.toNat + cin.toNat :=
  decide_eq_true_iff

/-- The operands have one sign and the result has the other: the reading of the formula's bit 7. -/
theorem Machine.addC_overflow_iff_sign (x y : Byte) (cin : Bool) :
    (addC x y cin).overflow = true ↔ x.getLsbD 7 = y.getLsbD 7 ∧ (addC x y cin).value.getLsbD 7 ≠ x.getLsbD 7 := by
  have hbits : (addC x y cin).overflow =
      ((x.getLsbD 7 ^^ (addC x y cin).value.getLsbD 7) && (y.getLsbD 7 ^^ (addC x y cin).value.getLsbD 7)) := by
    simp only [addC, BitVec.getLsbD_and, BitVec.getLsbD_xor]
  rw [hbits]
  cases x.getLsbD 7 <;> cases y.getLsbD 7 <;> cases (addC x y cin).value.getLsbD 7 <;> decide

/-- The signed result is the signed sum, brought into -128..127. -/
theorem Machine.addC_value_toInt (x y : Byte) (cin : Bool) :
    (addC x y cin).value.toInt = (x.toInt + y.toInt + (cin.toNat : Int)).bmod 256 := by
  rw [BitVec.toInt_eq_toNat_cond, addC_value_toNat, x.toInt_eq_toNat_cond, y.toInt_eq_toNat_cond, Int.bmod]
  omega

/-- Bit 7 of a byte is the sign of its two's complement value. -/
theorem Machine.getLsbD_seven_eq (b : Byte) : b.getLsbD 7 = decide (b.toInt < 0) :=
  (BitVec.msb_eq_getLsbD_last b).symm.trans BitVec.msb_eq_toInt

/-- A sum outside -128..127 has summands of one sign, and bringing it back by 256 gives the result the other sign. -/
theorem Machine.addC_overflow_iff_toInt (x y : Byte) (cin : Bool) :
    (addC x y cin).overflow = true ↔
      x.toInt + y.toInt + (cin.toNat : Int) < -128 ∨ 127 < x.toInt + y.toInt + (cin.toNat : Int) := by
  have hxl : -128 ≤ x.toInt := x.le_toInt
  have hxu : x.toInt < 128 := x.toInt_lt
  have hyl : -128 ≤ y.toInt := y.le_toInt
  have hyu : y.toInt < 128 := y.toInt_lt
  have hcin : cin.toNat ≤ 1 := cin.toNat_le
  rw [addC_overflow_iff_sign, getLsbD_seven_eq, getLsbD_seven_eq, getLsbD_seven_eq, decide_eq_decide, ne_eq,
    decide_eq_decide, addC_value_toInt, Int.bmod]
  omega

/-! ### Subtraction is addition of the complement (R232) -/

theorem Machine.toInt_complement (b : Byte) : (~~~b).toInt = -b.toInt - 1 := by
  rw [BitVec.toInt_eq_toNat_cond, BitVec.toNat_not, b.toInt_eq_toNat_cond]
  omega

theorem Machine.addC_not_value_toNat (x m : Byte) (cin : Bool) :
    ((addC x (~~~m) cin).value.toNat : Int) = ((x.toNat : Int) - m.toNat - (1 - cin.toNat)) % 256 := by
  rw [addC_value_toNat, BitVec.toNat_not]
  omega

theorem Machine.addC_not_carry_iff (x m : Byte) (cin : Bool) :
    (addC x (~~~m) cin).carry = true ↔ 0 ≤ (x.toNat : Int) - m.toNat - (1 - cin.toNat) := by
  rw [addC_carry_iff, BitVec.toNat_not]
  omega

theorem Machine.addC_not_overflow_iff (x m : Byte) (cin : Bool) :
    (addC x (~~~m) cin).overflow = true ↔
      x.toInt - m.toInt - (1 - cin.toNat) < -128 ∨ 127 < x.toInt - m.toInt - (1 - cin.toNat) := by
  rw [addC_overflow_iff_toInt, toInt_complement]
  omega

/-! ### Refusal and completion of the two instructions that read D (R236) -/

theorem Machine.State.refusesDecimal_iff (s : State) :
    s.refusesDecimal = true ↔ s.p.d = true ∧ s.cfg.decimalPolicy = .refuse := by
  rw [State.refusesDecimal, Bool.and_eq_true, beq_iff_eq]

theorem exec_eq_refused {i : Instr} {k : Kind} {s : State} (hk : i.kind = k) (hdec : k.readsDecimal = true)
    (h : s.p.d = true ∧ s.cfg.decimalPolicy = .refuse) : exec i s = .refused .decimalMode := by
  rw [exec_eq, hk, hdec, s.refusesDecimal_iff.mpr h]
  rfl

/-- An instruction that does not set PC completes where decimal arithmetic is not refused: its effect, then the generic
advance. -/
theorem exec_of_not_refuses {i : Instr} {k : Kind} {s : State} (hk : i.kind = k) (hset : k.setsPC = false)
    (h : ¬ (s.p.d = true ∧ s.cfg.decimalPolicy = .refuse)) :
    exec i s = .next ((k.effect i.operand s).advance i.length) := by
  subst hk
  have hno : s.refusesDecimal = false := Bool.eq_false_iff.mpr (mt s.refusesDecimal_iff.mp h)
  exact exec_eq_next.mpr ⟨by rw [hno, Bool.and_false], by rw [Instr.after, hset]; rfl⟩

/-! ### The obligations -/

/-- Settles O14. -/
theorem adderAddsWithCarryAndSignedOverflow : Obligations.AdderAddsWithCarryAndSignedOverflow :=
  fun x y cin => ⟨addC_value_toNat x y cin, addC_carry_iff x y cin, addC_overflow_iff_sign x y cin,
    addC_overflow_iff_toInt x y cin⟩

/-- Settles O23: ADC leaves the adder's result and flags, which are the sum's by the adder's lemmas. -/
theorem adcAddsOperandAndCarry : Obligations.AdcAddsOperandAndCarry :=
  fun i s h => ⟨Instr.opcodeOf_mode_mem_rows h, exec_eq_refused h rfl,
    fun hbin => ⟨i.operand.byteIn s, _, _, _, Instr.readOperand_of_kind h (by decide) s, exec_of_not_refuses h rfl hbin,
      addC_value_toNat s.a _ s.p.c, addC_carry_iff s.a _ s.p.c, addC_overflow_iff_toInt s.a _ s.p.c⟩⟩

/-- Settles O24: SBC is the adder on the complement, and the complement turns the sum into the difference. -/
theorem sbcSubtractsOperandAndBorrow : Obligations.SbcSubtractsOperandAndBorrow :=
  fun i s h => ⟨Instr.opcodeOf_mode_mem_rows h, exec_eq_refused h rfl,
    fun hbin => ⟨i.operand.byteIn s, _, _, _, Instr.readOperand_of_kind h (by decide) s, exec_of_not_refuses h rfl hbin,
      addC_not_value_toNat s.a _ s.p.c, addC_not_carry_iff s.a _ s.p.c, addC_not_overflow_iff s.a _ s.p.c⟩⟩

/-- Settles O25: the effect of each is one operation on the whole byte, which works bit by bit. -/
theorem logicCombinesBitByBit : Obligations.LogicCombinesBitByBit :=
  ⟨fun i s h => ⟨Instr.opcodeOf_mode_mem_rows h, i.operand.byteIn s, s.a &&& i.operand.byteIn s,
      Instr.readOperand_of_kind h (by decide) s, fun _ _ => BitVec.getLsbD_and, exec_of_kind h rfl rfl s⟩,
    fun i s h => ⟨Instr.opcodeOf_mode_mem_rows h, i.operand.byteIn s, s.a ||| i.operand.byteIn s,
      Instr.readOperand_of_kind h (by decide) s, fun _ _ => BitVec.getLsbD_or, exec_of_kind h rfl rfl s⟩,
    fun i s h => ⟨Instr.opcodeOf_mode_mem_rows h, i.operand.byteIn s, s.a ^^^ i.operand.byteIn s,
      Instr.readOperand_of_kind h (by decide) s, fun _ _ => BitVec.getLsbD_xor, exec_of_kind h rfl rfl s⟩⟩

end Sys2Proof
end

section
/-! Shifts, increments, decrements and compares (44_shift_incdec_compare.md R250 to R264): the flag computations in
numbers, the read-modify-write instructions in memory modes, and the next state of each instruction. -/

namespace Sys2Proof
open Sys2Proof.Machine

/-! ### Bits of a byte in numbers -/

/-- Bit 7 of a byte is set from 128 on. -/
theorem Machine.getLsbD_seven_eq_le (b : Byte) : b.getLsbD 7 = decide (128 ≤ b.toNat) :=
  (BitVec.msb_eq_getLsbD_last b).symm.trans (BitVec.msb_eq_decide b)

/-- Bit 0 of a byte is its parity. -/
theorem Machine.getLsbD_zero_eq_mod (b : Byte) : b.getLsbD 0 = decide (b.toNat % 2 = 1) :=
  Nat.testBit_zero b.toNat

theorem Machine.ofNat_getLsbD_seven (n : Nat) : (BitVec.ofNat 8 n).getLsbD 7 = decide (128 ≤ n % 256) := by
  rw [getLsbD_seven_eq_le, BitVec.toNat_ofNat]

theorem Machine.ofNat_beq_zero (n : Nat) : (BitVec.ofNat 8 n == 0x00#8) = decide (n % 256 = 0) := by
  rw [beq_eq_decide, decide_eq_decide, BitVec.toNat_eq, BitVec.toNat_ofNat, BitVec.toNat_ofNat]

/-! ### The shifts in numbers (R251 to R254) -/

theorem Machine.shiftLeft_one_eq (v : Byte) : v <<< 1 = BitVec.ofNat 8 (2 * v.toNat) := by
  apply BitVec.eq_of_toNat_eq
  rw [BitVec.toNat_shiftLeft, BitVec.toNat_ofNat, Nat.shiftLeft_eq, Nat.pow_one, Nat.mul_comm]

theorem Machine.ushiftRight_one_eq (v : Byte) : v >>> 1 = BitVec.ofNat 8 (v.toNat / 2) := by
  apply BitVec.eq_of_toNat_eq
  rw [BitVec.toNat_ushiftRight, BitVec.toNat_ofNat, Nat.shiftRight_eq_div_pow]
  omega

theorem Machine.shiftLeft_eq (v : Byte) :
    shiftLeft v = { value := BitVec.ofNat 8 (2 * v.toNat), out := decide (128 ≤ v.toNat) } := by
  rw [shiftLeft, shiftLeft_one_eq, getLsbD_seven_eq_le]

theorem Machine.shiftRight_eq (v : Byte) :
    shiftRight v = { value := BitVec.ofNat 8 (v.toNat / 2), out := decide (v.toNat % 2 = 1) } := by
  rw [shiftRight, ushiftRight_one_eq, getLsbD_zero_eq_mod]

/-- The carry enters the empty bit 0, so the bitwise or adds it. -/
theorem Machine.rotateLeft_eq (v : Byte) (cin : Bool) :
    rotateLeft v cin = { value := BitVec.ofNat 8 (2 * v.toNat + cin.toNat), out := decide (128 ≤ v.toNat) } := by
  have hdisjoint : v <<< 1 &&& (BitVec.ofBool cin).zeroExtend 8 = 0#8 := by
    ext k hk
    simp +contextual
  have hcin : (BitVec.ofBool cin).zeroExtend 8 = BitVec.ofNat 8 cin.toNat := by cases cin <;> rfl
  rw [rotateLeft, ← BitVec.add_eq_or_of_and_eq_zero _ _ hdisjoint, shiftLeft_one_eq, hcin, ← BitVec.ofNat_add,
    getLsbD_seven_eq_le]

/-- The carry enters the empty bit 7, so the bitwise or adds 128 times it. -/
theorem Machine.rotateRight_eq (v : Byte) (cin : Bool) :
    rotateRight v cin =
      { value := BitVec.ofNat 8 (v.toNat / 2 + 128 * cin.toNat), out := decide (v.toNat % 2 = 1) } := by
  have hdisjoint : v >>> 1 &&& (BitVec.ofBool cin).zeroExtend 8 <<< 7 = 0#8 := by
    ext k hk
    rcases Nat.lt_or_ge k 7 with hlow | hhigh
    · simp [hlow]
    · simp [BitVec.getLsbD_of_ge v (1 + k) (by omega)]
  have hcin : (BitVec.ofBool cin).zeroExtend 8 <<< 7 = BitVec.ofNat 8 (128 * cin.toNat) := by cases cin <;> rfl
  rw [rotateRight, ← BitVec.add_eq_or_of_and_eq_zero _ _ hdisjoint, ushiftRight_one_eq, hcin, ← BitVec.ofNat_add,
    getLsbD_zero_eq_mod]

/-! ### The flags in numbers (R250, R261) -/

theorem Machine.Flags.afterShift_ofNat (p : Flags) (n : Nat) (out : Bool) :
    p.afterShift { value := BitVec.ofNat 8 n, out := out } =
      { p with c := out, z := decide (n % 256 = 0), n := decide (128 ≤ n % 256) } := by
  rw [Flags.afterShift, Flags.setNZ, ofNat_beq_zero, ofNat_getLsbD_seven]

theorem Machine.Flags.compare_eq (p : Flags) (reg m : Byte) :
    p.compare reg m =
      { p with
        c := decide (m.toNat ≤ reg.toNat), z := decide (reg = m),
        n := decide (128 ≤ (reg.toNat + 256 - m.toNat) % 256) } := by
  have hdiff : (reg - m).toNat = (reg.toNat + 256 - m.toNat) % 256 := by
    rw [BitVec.toNat_sub]
    omega
  rw [Flags.compare, getLsbD_seven_eq_le, hdiff, beq_eq_decide]

/-! ### Increment and decrement in numbers (R255 to R260) -/

theorem Machine.add_one_toNat (v : Byte) : (v + 1#8).toNat = (v.toNat + 1) % 256 :=
  BitVec.toNat_add v 1#8

theorem Machine.sub_one_toNat (v : Byte) : (v - 1#8).toNat = (v.toNat + 255) % 256 := by
  rw [BitVec.toNat_sub, Nat.add_comm]
  rfl

/-! ### Shifts of the accumulator, and compares -/

/-- Accumulator mode: `n` and `out` are the shift in numbers (R250, R182). -/
theorem exec_shift_accumulator {i : Instr} {s : State} {r : Shifted} {n : Nat} {out : Bool}
    (hr : r = { value := BitVec.ofNat 8 n, out := out })
    (hexec : exec i s = .next ((s.setA r.value).setP (s.p.afterShift r))) :
    exec i s = .next { s with
      a := BitVec.ofNat 8 n, p := { s.p with c := out, z := decide (n % 256 = 0), n := decide (128 ≤ n % 256) } } := by
  rw [hexec, hr, Flags.afterShift_ofNat]
  rfl

/-- An instruction whose effect is the compare helper changes C, Z, N and PC, and nothing else. -/
theorem exec_compare_spec {i : Instr} {s : State} {reg m : Byte}
    (hexec : exec i s = .next ((s.setP (s.p.compare reg m)).advance i.length)) :
    exec i s = .next { s with
      p := { s.p with
        c := decide (m.toNat ≤ reg.toNat), z := decide (reg = m),
        n := decide (128 ≤ (reg.toNat + 256 - m.toNat) % 256) }, pc := s.pc + BitVec.ofNat 16 (i.length - 1) } := by
  rw [hexec, Flags.compare_eq]
  rfl

/-! ### Read-modify-write in the memory modes (R185) -/

/-- The modes in which INC and DEC have an opcode, and the four shifts besides Accumulator mode (R109). -/
def memoryModes : List AddrMode := [.zeroPage, .zeroPageX, .absolute, .absoluteX]

/-- Where the operand has an address, its byte is the one there (R185). -/
theorem Operand.byteIn_of_resolve {o : Operand} {s : State} {ea : Addr} (h : resolve o s = some ea)
    (himm : ∀ m, o ≠ .immediate m) : o.byteIn s = s.read ea := by
  rw [Operand.byteIn, readOperand_of_resolve h himm, Option.getD_some]

/-- Where the operand has an address, writing back writes there (R185). -/
theorem Operand.put_of_resolve {o : Operand} {s : State} {ea : Addr} (h : resolve o s = some ea) (v : Byte) :
    o.put v s = s.write ea v := by
  rw [Operand.put, writeBack_of_resolve h, Option.getD_some]

/-- An instruction that replaces the byte at its address by `f` of it, with Z and N following the result, changes that
byte, the flags and PC, and nothing else. `q` is P before Z and N follow the result, from the byte read. -/
theorem exec_modify_spec {i : Instr} {s : State} (hwf : Memory.wf s.mem = true) (hmode : i.mode ∈ memoryModes)
    (f : Byte → Byte) (q : Byte → Flags)
    (hexec : exec i s = .next (((i.operand.put (f (i.operand.byteIn s)) s).setP
      ((q (i.operand.byteIn s)).setNZ (f (i.operand.byteIn s)))).advance i.length)) :
    ∃ ea t, resolve i.operand s = some ea ∧ exec i s = .next t ∧ t.read ea = f (s.read ea) ∧
      (∀ k, k ≠ ea → t.read k = s.read k) ∧
      t = { s with
        mem := t.mem, pc := s.pc + BitVec.ofNat 16 (i.length - 1), p := (q (s.read ea)).setNZ (t.read ea) } := by
  have haddr : resolve i.operand s = some (i.operand.addrIn s) :=
    Operand.resolve_eq_addrIn (ne_of_mem_of_not_mem hmode (by decide)) (ne_of_mem_of_not_mem hmode (by decide)) s
  have himm : ∀ m, i.operand ≠ .immediate m := fun m hm =>
    ne_of_mem_of_not_mem hmode (by decide : AddrMode.immediate ∉ _) (congrArg Operand.mode hm)
  rw [Operand.byteIn_of_resolve haddr himm, Operand.put_of_resolve haddr] at hexec
  have hread := State.read_write_same hwf (i.operand.addrIn s) (f (s.read (i.operand.addrIn s)))
  refine ⟨i.operand.addrIn s, _, haddr, hexec, hread, fun k hne => State.read_write_other s hne _, ?_⟩
  rw [State.read_advance, State.read_setP, hread]
  rfl

/-- INC and DEC: `f` changes the byte by `d` modulo 256 (R255, R256). -/
theorem exec_incDec_spec {i : Instr} {s : State} {f : Byte → Byte} {d : Nat} (hwf : Memory.wf s.mem = true)
    (hmode : i.mode ∈ memoryModes) (hf : ∀ v, (f v).toNat = (v.toNat + d) % 256)
    (hexec : exec i s = .next (((i.operand.put (f (i.operand.byteIn s)) s).setP
      (s.p.setNZ (f (i.operand.byteIn s)))).advance i.length)) :
    ∃ ea t, resolve i.operand s = some ea ∧ exec i s = .next t ∧
      (t.read ea).toNat = ((s.read ea).toNat + d) % 256 ∧ (∀ k, k ≠ ea → t.read k = s.read k) ∧
      t = { s with
        mem := t.mem, pc := s.pc + BitVec.ofNat 16 (i.length - 1),
        p := { s.p with z := t.read ea == 0x00#8, n := (t.read ea).getLsbD 7 } } := by
  obtain ⟨ea, t, haddr, hnext, hread, hother, ht⟩ := exec_modify_spec hwf hmode f (fun _ => s.p) hexec
  exact ⟨ea, t, haddr, hnext, by rw [hread, hf], hother, ht⟩

/-- ASL, LSR, ROL and ROR in the memory modes: `value` and `out` are the shift in numbers (R250). -/
theorem exec_shift_memory {i : Instr} {s : State} {shift : Byte → Shifted} {value : Byte → Nat} {out : Byte → Bool}
    (hwf : Memory.wf s.mem = true) (hmode : i.mode ∈ memoryModes)
    (hshift : ∀ v, shift v = { value := BitVec.ofNat 8 (value v), out := out v })
    (hexec : exec i s = .next (((i.operand.put (shift (i.operand.byteIn s)).value s).setP
      (s.p.afterShift (shift (i.operand.byteIn s)))).advance i.length)) :
    ∃ ea v t, resolve i.operand s = some ea ∧ v = s.read ea ∧ exec i s = .next t ∧
      t.read ea = BitVec.ofNat 8 (value v) ∧ (∀ k, k ≠ ea → t.read k = s.read k) ∧
      t = { s with
        mem := t.mem, pc := s.pc + BitVec.ofNat 16 (i.length - 1),
        p := { s.p with c := out v, z := t.read ea == 0x00#8, n := (t.read ea).getLsbD 7 } } := by
  rw [hshift] at hexec
  obtain ⟨ea, t, haddr, hnext, hread, hother, ht⟩ :=
    exec_modify_spec hwf hmode (fun v => BitVec.ofNat 8 (value v)) (fun v => { s.p with c := out v }) hexec
  exact ⟨ea, s.read ea, t, haddr, rfl, hnext, hread, hother, ht⟩

/-- Among the rows of a mnemonic whose first is Accumulator mode, an instruction in another mode has a later one. -/
theorem mem_of_mem_cons_accumulator {opcode b : Byte} {m : AddrMode} {rows : List (Byte × AddrMode)}
    (hacc : m ≠ .accumulator) (h : (opcode, m) ∈ (b, AddrMode.accumulator) :: rows) : (opcode, m) ∈ rows :=
  List.mem_of_ne_of_mem (fun heq => hacc (congrArg Prod.snd heq)) h

/-! ### The obligations -/

/-- Settles O26: each shift has one byte, so its effect is all it does. -/
theorem accumulatorShiftsAndRotates : Obligations.AccumulatorShiftsAndRotates :=
  fun s => ⟨⟨rfl, exec_shift_accumulator (shiftLeft_eq s.a) (exec_of_length_one rfl rfl rfl s)⟩,
    ⟨rfl, exec_shift_accumulator (shiftRight_eq s.a) (exec_of_length_one rfl rfl rfl s)⟩,
    ⟨rfl, exec_shift_accumulator (rotateLeft_eq s.a s.p.c) (exec_of_length_one rfl rfl rfl s)⟩,
    ⟨rfl, exec_shift_accumulator (rotateRight_eq s.a s.p.c) (exec_of_length_one rfl rfl rfl s)⟩⟩

/-- Settles O27: the first row of each mnemonic is Accumulator mode, and the others are the memory modes. -/
theorem memoryShiftsAndRotates : Obligations.MemoryShiftsAndRotates :=
  ⟨fun _ s h hacc hwf => ⟨mem_of_mem_cons_accumulator hacc (Instr.opcodeOf_mode_mem_rows h),
      exec_shift_memory hwf (List.mem_of_ne_of_mem hacc (Instr.mode_mem_modes h)) shiftLeft_eq
        (exec_of_kind h rfl rfl s)⟩,
    fun _ s h hacc hwf => ⟨mem_of_mem_cons_accumulator hacc (Instr.opcodeOf_mode_mem_rows h),
      exec_shift_memory hwf (List.mem_of_ne_of_mem hacc (Instr.mode_mem_modes h)) shiftRight_eq
        (exec_of_kind h rfl rfl s)⟩,
    fun _ s h hacc hwf => ⟨mem_of_mem_cons_accumulator hacc (Instr.opcodeOf_mode_mem_rows h),
      exec_shift_memory hwf (List.mem_of_ne_of_mem hacc (Instr.mode_mem_modes h)) (fun v => rotateLeft_eq v s.p.c)
        (exec_of_kind h rfl rfl s)⟩,
    fun _ s h hacc hwf => ⟨mem_of_mem_cons_accumulator hacc (Instr.opcodeOf_mode_mem_rows h),
      exec_shift_memory hwf (List.mem_of_ne_of_mem hacc (Instr.mode_mem_modes h)) (fun v => rotateRight_eq v s.p.c)
        (exec_of_kind h rfl rfl s)⟩⟩

/-- Settles O28: both have the memory modes alone, and subtracting 1 adds 255 modulo 256. -/
theorem incAndDecChangeTheAddressedByteByOne : Obligations.IncAndDecChangeTheAddressedByteByOne :=
  ⟨fun _ s h hwf => ⟨Instr.opcodeOf_mode_mem_rows h,
      exec_incDec_spec hwf (Instr.mode_mem_modes h) add_one_toNat (exec_of_kind h rfl rfl s)⟩,
    fun _ s h hwf => ⟨Instr.opcodeOf_mode_mem_rows h,
      exec_incDec_spec hwf (Instr.mode_mem_modes h) sub_one_toNat (exec_of_kind h rfl rfl s)⟩⟩

/-- Settles O29: each has one byte, so its effect is all it does. -/
theorem indexRegistersChangeByOne : Obligations.IndexRegistersChangeByOne :=
  fun s => ⟨⟨s.x + 1#8, add_one_toNat s.x, rfl, exec_of_length_one rfl rfl rfl s⟩,
    ⟨s.y + 1#8, add_one_toNat s.y, rfl, exec_of_length_one rfl rfl rfl s⟩,
    ⟨s.x - 1#8, sub_one_toNat s.x, rfl, exec_of_length_one rfl rfl rfl s⟩,
    ⟨s.y - 1#8, sub_one_toNat s.y, rfl, exec_of_length_one rfl rfl rfl s⟩⟩

/-- Settles O30: each compare is the helper of R261 on its register and the operand byte. -/
theorem comparesSetCarryZeroAndNegative : Obligations.ComparesSetCarryZeroAndNegative :=
  ⟨fun i s h => ⟨Instr.opcodeOf_mode_mem_rows h, i.operand.byteIn s, Instr.readOperand_of_kind h (by decide) s,
      exec_compare_spec (exec_of_kind h rfl rfl s)⟩,
    fun i s h => ⟨Instr.opcodeOf_mode_mem_rows h, i.operand.byteIn s, Instr.readOperand_of_kind h (by decide) s,
      exec_compare_spec (exec_of_kind h rfl rfl s)⟩,
    fun i s h => ⟨Instr.opcodeOf_mode_mem_rows h, i.operand.byteIn s, Instr.readOperand_of_kind h (by decide) s,
      exec_compare_spec (exec_of_kind h rfl rfl s)⟩⟩

end Sys2Proof
end

section
/-! The stack and `JMP (ptr)` in numbers (20_memory.md R80 to R82, 45_control_transfer.md R289): stack slots as numbers,
what a push and a pull of a word change, and where an indirect jump goes. -/

namespace Sys2Proof
namespace Machine

/-! ### Stack slots -/

theorem stackAddr_eq_ofNat (sp : Byte) : stackAddr sp = BitVec.ofNat 16 (256 + sp.toNat) :=
  BitVec.eq_of_toNat_eq (by rw [stackAddr_toNat, BitVec.toNat_ofNat]; omega)

theorem stackAddr_sub_one (sp : Byte) : stackAddr (sp - 1#8) = BitVec.ofNat 16 (256 + (sp.toNat + 255) % 256) := by
  rw [stackAddr_eq_ofNat, sub_one_toNat]

theorem stackAddr_add (sp n : Byte) :
    stackAddr (sp + n) = BitVec.ofNat 16 (256 + (sp.toNat + n.toNat) % 256) := by
  rw [stackAddr_eq_ofNat, BitVec.toNat_add]

/-! ### A word on the stack (R82) -/

/-- Pushing a word moves SP down by two and writes memory. -/
theorem State.push16_eq (s : State) (v : Addr) :
    s.push16 v = { s with mem := (s.push16 v).mem, sp := s.sp - 2#8 } := by
  have hsp : s.sp - 2#8 = s.sp - 1#8 - 1#8 := (BitVec.sub_sub s.sp 1#8 1#8).symm
  rw [hsp]
  rfl

theorem State.read_push16_high {s : State} (h : Memory.wf s.mem = true) (v : Addr) :
    (s.push16 v).read (stackAddr s.sp) = highByte v := by
  have hne : stackAddr s.sp ≠ stackAddr (s.sp - 1#8) := by
    rw [Ne, stackAddr_inj]
    bv_omega
  rw [State.read_push16 h, if_neg hne, if_pos rfl]

theorem State.read_push16_low {s : State} (h : Memory.wf s.mem = true) (v : Addr) :
    (s.push16 v).read (stackAddr (s.sp - 1#8)) = lowByte v := by
  rw [State.read_push16 h, if_pos rfl]

/-- Pulling a word moves SP up by two and changes nothing else. -/
theorem State.pull16_state (s : State) : s.pull16.2 = { s with sp := s.sp + 2#8 } := by
  have hsp : s.sp + 2#8 = s.sp + 1#8 + 1#8 := (BitVec.add_assoc s.sp 1#8 1#8).symm
  rw [hsp]
  rfl

/-- The pulled word as a number: the low byte lies below the high byte. -/
theorem State.pull16_toNat (s : State) :
    s.pull16.1.toNat = (s.read (BitVec.ofNat 16 (256 + (s.sp.toNat + 1) % 256))).toNat +
      256 * (s.read (BitVec.ofNat 16 (256 + (s.sp.toNat + 2) % 256))).toNat := by
  have hlow : stackAddr (s.sp + 1#8) = BitVec.ofNat 16 (256 + (s.sp.toNat + 1) % 256) := stackAddr_add s.sp 1#8
  have hhigh : stackAddr (s.sp + 1#8 + 1#8) = BitVec.ofNat 16 (256 + (s.sp.toNat + 2) % 256) := by
    rw [BitVec.add_assoc]
    exact stackAddr_add s.sp 2#8
  rw [State.pull16_word, word_toNat, hlow, hhigh, Nat.add_comm]

/-- A pull gives back the word last pushed. -/
theorem State.pull16_push16 {s : State} (h : Memory.wf s.mem = true) (v : Addr) : (s.push16 v).pull16.1 = v := by
  rw [State.pull16_word, State.push16_sp, BitVec.sub_add_cancel, BitVec.sub_add_cancel, State.read_push16_high h,
    State.read_push16_low h, word_high_low]

/-! ### Trap return (R348) -/

/-- Trap return in parts: P from the first pulled byte, PC from the word above it. -/
theorem State.trapReturn_eq (s : State) :
    s.trapReturn = { s with
      sp := s.sp + 3#8, pc := ({ s with sp := s.sp + 1#8 } : State).pull16.1,
      p := Flags.ofPulled (s.read (stackAddr (s.sp + 1#8))) } := by
  have hsp : s.sp + 3#8 = s.sp + 1#8 + 1#8 + 1#8 := by rw [BitVec.add_assoc, BitVec.add_assoc]; rfl
  rw [hsp]
  rfl

/-! ### The target of an indirect jump (R289) -/

/-- The masks of `JMP (ptr)` take the high byte of one word and the low byte of the other. -/
theorem word_and_or_word_and (hi lo hi' lo' : Byte) :
    (word hi lo &&& word 0xFF#8 0x00#8) ||| (word hi' lo' &&& word 0x00#8 0xFF#8) = word hi lo' := by
  have append_masks : (hi ++ lo &&& BitVec.allOnes 8 ++ 0#8) ||| (hi' ++ lo' &&& 0#8 ++ BitVec.allOnes 8) =
      hi ++ lo' := by
    simp only [BitVec.and_append, BitVec.or_append, BitVec.and_allOnes, BitVec.and_zero, BitVec.or_zero, BitVec.zero_or]
  exact append_masks

/-- The high byte of an indirect jump comes from the page of the pointer (`JMP_IND_PAGE_WRAP`). -/
theorem mask_high_or_mask_low (ptr next : Addr) :
    (ptr &&& 0xFF00#16) ||| (next &&& 0x00FF#16) = word (highByte ptr) (lowByte next) := by
  have h := word_and_or_word_and (highByte ptr) (lowByte ptr) (highByte next) (lowByte next)
  rwa [word_high_low, word_high_low] at h

/-- The target as a number, under both values of `JMP_IND_PAGE_WRAP`. -/
theorem State.indirectTarget_toNat (s : State) (ptr : Addr) :
    (s.indirectTarget ptr).toNat = (s.read ptr).toNat + 256 * (s.read (BitVec.ofNat 16
      (if s.cfg.jmpIndPageWrap then ptr.toNat / 256 * 256 + (ptr.toNat + 1) % 256 else ptr.toNat + 1))).toNat := by
  have hnext : ptr + 1#16 = BitVec.ofNat 16 (ptr.toNat + 1) := by
    rw [BitVec.ofNat_add, BitVec.ofNat_toNat, BitVec.setWidth_eq]
  have hwrap : word (highByte ptr) (lowByte (ptr + 1#16)) =
      BitVec.ofNat 16 (ptr.toNat / 256 * 256 + (ptr.toNat + 1) % 256) := by
    apply BitVec.eq_of_toNat_eq
    rw [word_toNat, highByte_toNat, lowByte_toNat, hnext, BitVec.toNat_ofNat, BitVec.toNat_ofNat]
    omega
  unfold State.indirectTarget
  rw [word_toNat, Nat.add_comm, mask_high_or_mask_low, hwrap, hnext, apply_ite (BitVec.ofNat 16)]

end Machine
end Sys2Proof
end

section
/-! Branches, jumps, calls and returns (45_control_transfer.md R280 to R292). -/

namespace Sys2Proof
open Sys2Proof.Machine

/-- An instruction that sets PC itself completes with its effect alone (R145, R152). -/
theorem exec_of_setsPC {i : Instr} (hset : i.kind.setsPC = true) (hdec : i.kind.readsDecimal = false) (s : State) :
    exec i s = .next (i.kind.effect i.operand s) :=
  exec_eq_next.mpr ⟨by rw [hdec, Bool.false_and], by rw [Instr.after, if_pos hset]⟩

/-! ### Branches (R280) -/

/-- A branch on `cond` goes to its target where `cond` holds, and past its operand byte where not. -/
theorem exec_branch_spec {i : Instr} {s : State} {d : Byte} {cond : Prop} [Decidable cond] {b : Bool}
    (hcond : decide cond = b) (hexec : exec i s = .next (s.branched b (.relative d))) :
    exec i s = .next { s with pc := if cond then (Operand.relative d).addrIn s else s.pc + 1#16 } := by
  subst hcond
  rw [hexec]
  by_cases h : cond
  · rw [decide_eq_true h, if_pos h]
    rfl
  · rw [decide_eq_false h, if_neg h]
    rfl

/-- Settles O31. -/
theorem branchesTestOneFlag : Obligations.BranchesTestOneFlag :=
  fun d s => ⟨(Operand.relative d).addrIn s, rfl,
    ⟨rfl, exec_branch_spec Bool.decide_eq_false (exec_of_setsPC rfl rfl s)⟩,
    ⟨rfl, exec_branch_spec Bool.decide_eq_true (exec_of_setsPC rfl rfl s)⟩,
    ⟨rfl, exec_branch_spec Bool.decide_eq_true (exec_of_setsPC rfl rfl s)⟩,
    ⟨rfl, exec_branch_spec Bool.decide_eq_false (exec_of_setsPC rfl rfl s)⟩,
    ⟨rfl, exec_branch_spec Bool.decide_eq_true (exec_of_setsPC rfl rfl s)⟩,
    ⟨rfl, exec_branch_spec Bool.decide_eq_false (exec_of_setsPC rfl rfl s)⟩,
    ⟨rfl, exec_branch_spec Bool.decide_eq_false (exec_of_setsPC rfl rfl s)⟩,
    ⟨rfl, exec_branch_spec Bool.decide_eq_true (exec_of_setsPC rfl rfl s)⟩⟩

/-! ### Jumps (R289) -/

/-- Settles O32. -/
theorem jmpGoesToItsTarget : Obligations.JmpGoesToItsTarget :=
  fun w s => ⟨rfl, exec_of_setsPC rfl rfl s, rfl, s.indirectTarget w, exec_of_setsPC rfl rfl s,
    State.indirectTarget_toNat s w⟩

/-! ### Calls and returns (R290 to R292) -/

theorem exec_jsr (w : Addr) (s : State) : exec (.jsr w) s = .next ((s.push16 (s.pc + 1#16)).setPC w) :=
  exec_of_setsPC rfl rfl s

theorem exec_rts (s : State) : exec .rts s = .next { s with sp := s.sp + 2#8, pc := s.pull16.1 + 1#16 } := by
  have h : exec .rts s = .next (s.pull16.2.setPC (s.pull16.1 + 1#16)) := exec_of_setsPC rfl rfl s
  rw [h, State.pull16_state]
  rfl

theorem exec_rti (s : State) : exec .rti s = .next s.trapReturn :=
  exec_of_setsPC rfl rfl s

/-- What JSR leaves: SP two lower, PC at the operand, and only memory changed beside them. -/
theorem setPC_push16_eq (s : State) (v w : Addr) :
    (s.push16 v).setPC w = { s with mem := ((s.push16 v).setPC w).mem, sp := s.sp - 2#8, pc := w } :=
  congrArg (fun t : State => t.setPC w) (State.push16_eq s v)

/-- Settles O33: the two pushed bytes are those of `pc1 + 1`. -/
theorem jsrPushesTheAddressOfItsLastByte : Obligations.JsrPushesTheAddressOfItsLastByte := by
  intro w s hwf
  have hret : (s.pc + 1#16).toNat = (s.pc.toNat + 1) % 65536 := BitVec.toNat_add s.pc 1#16
  refine ⟨rfl, _, exec_jsr w s, setPC_push16_eq s _ w, ?_, ?_, fun k hhigh hlow => ?_⟩
  · rw [State.read_setPC, ← stackAddr_eq_ofNat, State.read_push16_high hwf, highByte_toNat, hret]
  · rw [State.read_setPC, ← stackAddr_sub_one, State.read_push16_low hwf, lowByte_toNat, hret,
      Nat.mod_mod_of_dvd _ (by decide)]
  · rw [← stackAddr_eq_ofNat] at hhigh
    rw [← stackAddr_sub_one] at hlow
    rw [State.read_setPC, State.read_push16 hwf, if_neg hlow, if_neg hhigh]

/-- Settles O34. -/
theorem rtsAndRtiPullTheirFrame : Obligations.RtsAndRtiPullTheirFrame := by
  intro s
  refine ⟨rfl, rfl, ⟨_, exec_rts s, ?_⟩, ⟨_, _, (exec_rti s).trans (congrArg _ s.trapReturn_eq), ?_, ?_⟩⟩
  · rw [BitVec.toNat_add, State.pull16_toNat]
    rfl
  · rw [Flags.toByte_ofPulled, stackAddr_add]
    rfl
  · rw [State.pull16_toNat, add_one_toNat, Nat.mod_add_mod, Nat.mod_add_mod]
    rfl

/-- Settles O35: RTS pulls the word JSR pushed, and adds the 1 that leads behind the call. -/
theorem rtsAfterJsrReturnsBehindTheCall : Obligations.RtsAfterJsrReturnsBehindTheCall := by
  intro w s hwf
  refine ⟨_, _, exec_jsr w s, exec_rts _, ?_⟩
  have hpull : (((s.push16 (s.pc + 1#16)).setPC w).fetched).pull16.1 = s.pc + 1#16 :=
    State.pull16_push16 hwf (s.pc + 1#16)
  have hpc : s.pc + 1#16 + 1#16 = s.pc + 2#16 := BitVec.add_assoc s.pc 1#16 1#16
  rw [hpull, hpc, setPC_push16_eq]
  simp only [State.fetched_sp, BitVec.sub_add_cancel]
  rfl

end Sys2Proof
end

section
/-! One byte on the stack and the frame of BRK in numbers (20_memory.md R80, R81, 60_exceptions.md R347): what a push, a
pull and a trap entry change, and what is read from the stack slots after them. -/

namespace Sys2Proof
namespace Machine

/-! ### A byte on the stack (R80, R81) -/

/-- Pushing a byte moves SP down by one and writes memory. -/
theorem State.push8_eq (s : State) (v : Byte) : s.push8 v = { s with mem := (s.push8 v).mem, sp := s.sp - 1#8 } := rfl

theorem State.read_push8_same {s : State} (h : Memory.wf s.mem = true) (v : Byte) :
    (s.push8 v).read (stackAddr s.sp) = v := by
  rw [State.read_push8 h, if_pos rfl]

/-- The pulled byte is the one in the slot above SP, and a pull changes SP alone. -/
theorem State.pull8_eq (s : State) :
    s.pull8 = (s.read (BitVec.ofNat 16 (256 + (s.sp.toNat + 1) % 256)), { s with sp := s.sp + 1#8 }) :=
  congrArg (fun addr => (s.read addr, { s with sp := s.sp + 1#8 })) (stackAddr_add s.sp 1#8)

/-- A pull gives back the byte last pushed. -/
theorem State.pull8_push8 {s : State} (h : Memory.wf s.mem = true) (v : Byte) : (s.push8 v).pull8.1 = v := by
  rw [State.pull8_byte, State.push8_sp, BitVec.sub_add_cancel, State.read_push8_same h]

/-- A pull takes SP back to where it was before the push. -/
theorem State.pull8_push8_sp (s : State) (v : Byte) : (s.push8 v).pull8.2.sp = s.sp :=
  BitVec.sub_add_cancel s.sp 1#8

/-! ### The frame of a trap entry (R347) -/

theorem stackAddr_sub_two (sp : Byte) :
    stackAddr (sp - 1#8 - 1#8) = BitVec.ofNat 16 (256 + (sp.toNat + 254) % 256) := by
  have hwrap : ((sp.toNat + 255) % 256 + 255) % 256 = (sp.toNat + 254) % 256 := by omega
  rw [stackAddr_sub_one, sub_one_toNat, hwrap]

/-- The three pushes of a frame move SP down by three and write memory. -/
theorem State.push8_push16_eq (s : State) (w : Addr) (v : Byte) :
    (s.push16 w).push8 v = { s with mem := ((s.push16 w).push8 v).mem, sp := s.sp - 3#8 } := by
  have hsp : s.sp - 3#8 = s.sp - 2#8 - 1#8 := (BitVec.sub_sub s.sp 2#8 1#8).symm
  rw [hsp, State.push8_eq, State.push16_eq]

/-- Trap entry moves SP down by three, sets B, I if the parameter says so, and the mode, and writes memory. -/
theorem State.trapEntry_eq (s : State) :
    s.trapEntry = { s with
      mem := s.trapEntry.mem, sp := s.sp - 3#8, mode := .halted,
      p := { s.p with b := true, i := if s.cfg.brkSetsI then true else s.p.i } } := by
  rw [Bool.if_true_left, Bool.decide_eq_true]
  exact congrArg (fun t : State => (t.setP { t.p with b := true, i := s.cfg.brkSetsI || t.p.i }).setMode .halted)
    (State.push8_push16_eq s (s.pc + 1#16) s.p.pushed)

theorem State.read_trapEntry_high {s : State} (h : Memory.wf s.mem = true) :
    s.trapEntry.read (stackAddr s.sp) = highByte (s.pc + 1#16) := by
  have hstatus : stackAddr s.sp ≠ stackAddr (s.sp - 1#8 - 1#8) := by
    rw [Ne, stackAddr_inj]
    bv_omega
  have hlow : stackAddr s.sp ≠ stackAddr (s.sp - 1#8) := by
    rw [Ne, stackAddr_inj]
    bv_omega
  rw [State.read_trapEntry h, if_neg hstatus, if_neg hlow, if_pos rfl]

theorem State.read_trapEntry_low {s : State} (h : Memory.wf s.mem = true) :
    s.trapEntry.read (stackAddr (s.sp - 1#8)) = lowByte (s.pc + 1#16) := by
  have hstatus : stackAddr (s.sp - 1#8) ≠ stackAddr (s.sp - 1#8 - 1#8) := by
    rw [Ne, stackAddr_inj]
    bv_omega
  rw [State.read_trapEntry h, if_neg hstatus, if_pos rfl]

theorem State.read_trapEntry_status {s : State} (h : Memory.wf s.mem = true) :
    s.trapEntry.read (stackAddr (s.sp - 1#8 - 1#8)) = s.p.pushed := by
  rw [State.read_trapEntry h, if_pos rfl]

end Machine
end Sys2Proof
end

section
/-! Stack and flag instructions, BIT, BRK and NOP (46_stack_flags_bit_brk.md R310 to R323). -/

namespace Sys2Proof
open Sys2Proof.Machine

/-! ### Pushes and pulls (R310 to R313) -/

theorem exec_pha (s : State) : exec .pha s = .next (s.push8 s.a) :=
  exec_of_length_one rfl rfl rfl s

theorem exec_php (s : State) : exec .php s = .next (s.push8 s.p.pushed) :=
  exec_of_length_one rfl rfl rfl s

theorem exec_pla (s : State) : exec .pla s = .next ((s.pull8.2.setA s.pull8.1).setNZ s.pull8.1) :=
  exec_of_length_one rfl rfl rfl s

theorem exec_plp (s : State) : exec .plp s = .next (s.pull8.2.setP (Flags.ofPulled s.pull8.1)) :=
  exec_of_length_one rfl rfl rfl s

/-- An instruction that pushes `v` writes it in the slot of SP, moves SP, and changes nothing else. -/
theorem exec_push_spec {i : Instr} {s : State} {v : Byte} (hwf : Memory.wf s.mem = true)
    (hexec : exec i s = .next (s.push8 v)) :
    ∃ t, exec i s = .next t ∧ t = { s with mem := t.mem, sp := s.sp - 1#8 } ∧
      t.read (BitVec.ofNat 16 (256 + s.sp.toNat)) = v ∧
      (∀ k, k ≠ BitVec.ofNat 16 (256 + s.sp.toNat) → t.read k = s.read k) := by
  rw [← stackAddr_eq_ofNat]
  exact ⟨_, hexec, s.push8_eq v, State.read_push8_same hwf v, fun k hne => by rw [State.read_push8 hwf, if_neg hne]⟩

/-- Settles O36. -/
theorem pushesStoreOneByteBelow : Obligations.PushesStoreOneByteBelow :=
  fun s hwf => ⟨rfl, rfl, exec_push_spec hwf (exec_pha s), exec_push_spec hwf (exec_php s)⟩

/-- Settles O37. -/
theorem pullsTakeTheByteAbove : Obligations.PullsTakeTheByteAbove := by
  intro s
  refine ⟨rfl, rfl, ⟨_, rfl, ?_⟩, ⟨_, _, rfl, ?_, Flags.toByte_ofPulled _⟩⟩
  · rw [exec_pla, State.pull8_eq]
    rfl
  · rw [exec_plp, State.pull8_eq]
    rfl

/-- Settles O38: the pull finds the byte and SP of the push, which a change of A or P in between leaves alone. -/
theorem pullAfterPushRestores : Obligations.PullAfterPushRestores := by
  intro s other q hwf
  refine ⟨⟨_, _, exec_pha s, exec_pla _, ?_, s.pull8_push8_sp s.a, ?_⟩,
    ⟨_, _, exec_php s, exec_plp _, ?_, s.pull8_push8_sp s.p.pushed, rfl⟩⟩
  · exact State.pull8_push8 hwf s.a
  · exact congrArg s.p.setNZ (State.pull8_push8 hwf s.a)
  · exact (congrArg Flags.ofPulled (State.pull8_push8 hwf s.p.pushed)).trans s.p.ofPulled_pushed

/-! ### Flag instructions (R314 to R320) -/

/-- Settles O39: each has one byte, so its effect is all it does. -/
theorem flagInstructionsWriteOneFlag : Obligations.FlagInstructionsWriteOneFlag :=
  fun s => ⟨⟨rfl, exec_of_length_one rfl rfl rfl s⟩, ⟨rfl, exec_of_length_one rfl rfl rfl s⟩,
    ⟨rfl, exec_of_length_one rfl rfl rfl s⟩, ⟨rfl, exec_of_length_one rfl rfl rfl s⟩,
    ⟨rfl, exec_of_length_one rfl rfl rfl s⟩, ⟨rfl, exec_of_length_one rfl rfl rfl s⟩,
    ⟨rfl, exec_of_length_one rfl rfl rfl s⟩⟩

/-! ### BIT (R321) -/

/-- The AND of two bytes is 0 exactly if no bit is set in both. -/
theorem Machine.and_beq_zero_iff (a m : Byte) :
    (a &&& m == 0x00#8) = true ↔ ∀ k, k < 8 → ¬ (a.getLsbD k = true ∧ m.getLsbD k = true) := by
  simp only [beq_iff_eq, BitVec.eq_of_getLsbD_eq_iff, BitVec.getLsbD_and, BitVec.getLsbD_zero, Bool.eq_false_iff, Ne,
    Bool.and_eq_true]

/-- Settles O40: both modes of BIT have an address, and the operand is the byte there. -/
theorem bitTestsTheOperand : Obligations.BitTestsTheOperand := by
  intro i s h
  have haddr : resolve i.operand s = some (i.operand.addrIn s) := Instr.resolve_of_kind h (by decide) (by decide) s
  have himm : ∀ m, i.operand ≠ .immediate m := fun m hm =>
    ne_of_mem_of_not_mem (Instr.mode_mem_modes h) (by decide : AddrMode.immediate ∉ _) (congrArg Operand.mode hm)
  refine ⟨Instr.opcodeOf_mode_mem_rows h, i.operand.addrIn s, _, _, haddr, rfl, ?_, and_beq_zero_iff s.a _⟩
  rw [← Operand.byteIn_of_resolve haddr himm]
  exact exec_of_kind h rfl rfl s

/-! ### BRK and NOP (R322, R323) -/

theorem exec_brk (s : State) : exec .brk s = .next s.trapEntry :=
  exec_of_length_one rfl rfl rfl s

/-- Settles O41: the frame is the bytes of `pc1 + 1` and the pushed status, in the three slots from SP down. -/
theorem brkPushesItsFrameAndHalts : Obligations.BrkPushesItsFrameAndHalts := by
  intro s hwf
  have hret : (s.pc + 1#16).toNat = (s.pc.toNat + 1) % 65536 := BitVec.toNat_add s.pc 1#16
  rw [← stackAddr_eq_ofNat, ← stackAddr_sub_one, ← stackAddr_sub_two]
  refine ⟨rfl, _, exec_brk s, s.trapEntry_eq, ?_, ?_, State.read_trapEntry_status hwf, fun k hhigh hlow hstatus => ?_⟩
  · rw [State.read_trapEntry_high hwf, highByte_toNat, hret]
  · rw [State.read_trapEntry_low hwf, lowByte_toNat, hret, Nat.mod_mod_of_dvd _ (by decide)]
  · rw [State.read_trapEntry hwf, if_neg hstatus, if_neg hlow, if_neg hhigh]

/-- Settles O42: NOP has one byte and no effect. -/
theorem nopChangesNothing : Obligations.NopChangesNothing :=
  fun s => ⟨rfl, exec_of_length_one rfl rfl rfl s⟩

end Sys2Proof
end

section
/-! Exceptions (60_exceptions.md R340 to R348): what ends an instruction, the way out of a BRK frame, and what the host
may do with a Faulted state (70_reset_and_hazards.md R383, R384). -/

namespace Sys2Proof
open Sys2Proof.Machine

/-! ### How an instruction ends (R344, R346) -/

/-- The refusal of `exec_eq` in the words of R236. -/
theorem Instr.refused_iff (i : Instr) (s : State) : (i.kind.readsDecimal && s.refusesDecimal) = true ↔
    (i.kind = .adc ∨ i.kind = .sbc) ∧ s.p.d = true ∧ s.cfg.decimalPolicy = .refuse := by
  rw [Bool.and_eq_true, s.refusesDecimal_iff, Kind.readsDecimal, decide_eq_true_iff]

/-- Settles O44: an instruction answers its refusal or its next state. -/
theorem noInstructionFaultsWhileItExecutes : Obligations.NoInstructionFaultsWhileItExecutes :=
  exec_ne_fault

/-- Settles O45: the test of `exec_eq` is the one case of R236, and where it fails the next state is `Instr.after`. -/
theorem onlyDecimalArithmeticIsEverRefused : Obligations.OnlyDecimalArithmeticIsEverRefused :=
  fun i s => ⟨fun ⟨hkind, hdecimal⟩ => exec_eq_refused rfl (decide_eq_true hkind) hdecimal,
    fun h => ⟨i.after s, exec_eq_next.mpr ⟨Bool.eq_false_iff.mpr (mt (i.refused_iff s).mp h), rfl⟩⟩⟩

/-! ### The way out of a BRK frame (R348) -/

/-- A run resumed after BRK is Running and is as BRK left it in every other field (R379). -/
theorem Machine.State.resume_of_halted {s : State} (h : s.mode = .halted) : s.resume = s.setMode .running :=
  if_pos h

/-- A trap return takes the flags and the address of the frame above SP, and frees its three slots. -/
theorem Machine.State.trapReturn_of_frame {t : State} {status : Byte} {ret : Addr}
    (hstatus : t.read (stackAddr (t.sp + 1#8)) = status)
    (hlow : t.read (stackAddr (t.sp + 1#8 + 1#8)) = lowByte ret)
    (hhigh : t.read (stackAddr (t.sp + 1#8 + 1#8 + 1#8)) = highByte ret) :
    t.trapReturn = { t with sp := t.sp + 3#8, pc := ret, p := Flags.ofPulled status } := by
  have hpc : t.trapReturn.pc = ret := by rw [State.trapReturn_pc, hlow, hhigh, word_high_low]
  rw [← hpc, ← hstatus]
  exact t.trapReturn_eq

/-- A trap return from the frame of a trap entry: the return address, the flags with B = 0, and SP as before. -/
theorem Machine.State.trapReturn_of_trapEntry {s t : State} (hwf : Memory.wf s.mem = true)
    (hmem : t.mem = s.trapEntry.mem) (hsp : t.sp = s.trapEntry.sp) :
    t.trapReturn = { t with sp := s.sp, pc := s.pc + 1#16, p := { s.p with b := false } } := by
  have hread : ∀ k, t.read k = s.trapEntry.read k := State.read_congr hmem
  have hslots : t.sp + 1#8 = s.sp - 1#8 - 1#8 ∧ t.sp + 1#8 + 1#8 = s.sp - 1#8 ∧ t.sp + 1#8 + 1#8 + 1#8 = s.sp := by
    simp only [hsp, State.trapEntry_sp, BitVec.sub_add_cancel, and_self]
  obtain ⟨hstatus, hlow, hhigh⟩ := hslots
  have hfreed : t.sp + 3#8 = s.sp := by rw [← hhigh, BitVec.add_assoc, BitVec.add_assoc]; rfl
  rw [State.trapReturn_of_frame (status := s.p.pushed) (ret := s.pc + 1#16)
    (by rw [hstatus, hread, State.read_trapEntry_status hwf]) (by rw [hlow, hread, State.read_trapEntry_low hwf])
    (by rw [hhigh, hread, State.read_trapEntry_high hwf]), hfreed, Flags.ofPulled_pushed]

/-- Settles O43: RTI pulls the frame BRK pushed, which the resumption and the fetch leave alone. -/
theorem rtiReturnsThroughABrkFrame : Obligations.RtiReturnsThroughABrkFrame := by
  intro s hwf hrun
  have hreturn : (s.trapEntry.setMode .running).fetched.trapReturn = _ := State.trapReturn_of_trapEntry hwf rfl rfl
  refine ⟨_, _, exec_brk s, exec_rti _, ?_⟩
  rw [State.resume_of_halted s.trapEntry_mode, hreturn, ← hrun, State.trapEntry_eq]
  rfl

/-! ### Host operations (R340, R383, R384) -/

theorem hostLoad_of_faulted {s : State} (h : s.mode = .faulted) (bytes : List Byte) :
    hostLoad bytes s = .refused .hostOnFaulted :=
  unlessFaulted_of_faulted h _

theorem hostLoad_too_large {s : State} {bytes : List Byte} (h : s.mode ≠ .faulted) (hlen : 0x8000 < bytes.length) :
    hostLoad bytes s = .refused (.programTooLarge bytes.length) :=
  (unlessFaulted_of_not_faulted h _).trans (if_pos hlen)

/-- `load_and_run` is refused where its `load` is (R378). -/
theorem hostLoadAndRun_of_load_refused {s : State} {bytes : List Byte} {r : Refusal}
    (h : hostLoad bytes s = .refused r) (fuel : Nat) : hostLoadAndRun fuel bytes s = some (.refused r) := by
  rw [hostLoadAndRun, h]

/-- Settles O56: each operation asks for the mode first, and a load for the length of its image next. -/
theorem aFaultedStateRefusesEveryHostOperation : Obligations.AFaultedStateRefusesEveryHostOperation :=
  ⟨fun _ bytes fuel _ h => ⟨unlessFaulted_of_faulted h _, hostLoad_of_faulted h bytes, hostRun_of_faulted h fuel,
      unlessFaulted_of_faulted h _, hostLoadAndRun_of_load_refused (hostLoad_of_faulted h bytes) fuel,
      unlessFaulted_of_faulted h _⟩,
    fun _ _ fuel h hlen => ⟨hostLoad_too_large h hlen, hostLoadAndRun_of_load_refused (hostLoad_too_large h hlen) fuel⟩⟩

end Sys2Proof
end

section
/-! What `reset`, `load` and `load_and_run` do in a state that is not Faulted (70_reset_and_hazards.md R371 to R378). -/

namespace Sys2Proof
open Sys2Proof.Machine

/-! ### Reset (R371, R372) -/

theorem hostReset_of_not_faulted {s : State} (h : s.mode ≠ .faulted) : hostReset s = .next s.afterReset :=
  unlessFaulted_of_not_faulted h _

/-- What `reset` writes does not depend on what it wrote before: memory, and so the vector, is as it was. -/
theorem Machine.State.afterReset_afterReset (s : State) : s.afterReset.afterReset = s.afterReset := rfl

/-- PC after `reset` as a number: the vector's low byte and its high byte. -/
theorem Machine.State.afterReset_pc_toNat (s : State) :
    s.afterReset.pc.toNat = (s.read 0xFFFC#16).toNat + 256 * (s.read 0xFFFD#16).toNat :=
  (word_toNat _ _).trans (Nat.add_comm _ _)

/-- The seven flags 0, and bit 5 the hardwired 1. -/
theorem Machine.State.afterReset_status (s : State) : s.afterReset.p.toByte = 0x20#8 :=
  (by decide : Flags.zero.toByte = 0x20#8)

/-- A reset state is Running, so resetting again is not refused. -/
theorem hostReset_afterReset (s : State) : hostReset s.afterReset = .next s.afterReset := by
  have hrunning : s.afterReset.mode ≠ .faulted := (by decide : RunMode.running ≠ .faulted)
  rw [hostReset_of_not_faulted hrunning, State.afterReset_afterReset]

/-- Settles O55: the values are those of `State.afterReset`, which a second reset leaves as they are. -/
theorem hostResetGivesTheResetValues : Obligations.HostResetGivesTheResetValues :=
  ⟨fun s h => ⟨s.afterReset, hostReset_of_not_faulted h, rfl, rfl, rfl, s.afterReset_status, rfl,
    s.afterReset_pc_toNat, rfl, rfl, rfl, rfl, hostReset_afterReset s⟩, rfl⟩

/-! ### Copying an image to memory (R377) -/

/-- A copy writes memory alone. -/
theorem Machine.State.copyTo_eq (s : State) (addr : Addr) (bytes : List Byte) :
    s.copyTo addr bytes = { s with mem := (s.copyTo addr bytes).mem } := by
  induction bytes generalizing s addr with
  | nil => rfl
  | cons b rest ih => exact ih (s.write addr b) (addr + 1#16)

theorem Machine.State.wf_copyTo {s : State} (h : Memory.wf s.mem = true) (addr : Addr) (bytes : List Byte) :
    Memory.wf (s.copyTo addr bytes).mem = true := by
  induction bytes generalizing s addr with
  | nil => exact h
  | cons b rest ih => exact ih (State.wf_write h addr b) (addr + 1#16)

/-- The bytes after a copy: the one at distance `n` above `addr` (modulo 65536) is byte `n` of the image, and past its
end memory is as before. A longer image would write over its own first bytes. -/
theorem Machine.State.read_copyTo {s : State} (h : Memory.wf s.mem = true) {bytes : List Byte}
    (hlen : bytes.length ≤ 65536) (addr k : Addr) :
    (s.copyTo addr bytes).read k = bytes[(k - addr).toNat]?.getD (s.read k) := by
  induction bytes generalizing s addr with
  | nil => rfl
  | cons b rest ih =>
    rw [List.length_cons] at hlen
    rw [State.copyTo, ih (State.wf_write h addr b) (by omega) (addr + 1#16)]
    by_cases hk : k = addr
    · subst hk
      have hdist : (k - (k + 1#16)).toNat = 65535 := by bv_omega
      have hend : rest[65535]? = none := List.getElem?_eq_none (by omega)
      rw [hdist, hend, BitVec.sub_self, Option.getD_none, State.read_write_same h]
      rfl
    · have hdist : (k - addr).toNat = (k - (addr + 1#16)).toNat + 1 := by bv_omega
      rw [hdist, List.getElem?_cons_succ, State.read_write_other s hk]

/-! ### Load (R376, R377) -/

/-- The state `load` leaves: the image first, then its base in the reset vector. -/
def Machine.State.afterLoad (s : State) (bytes : List Byte) : State :=
  (s.copyTo loadBase bytes).writeWord resetVector loadBase

theorem hostLoad_of_fits {s : State} {bytes : List Byte} (h : s.mode ≠ .faulted) (hlen : bytes.length ≤ 0x8000) :
    hostLoad bytes s = .next (s.afterLoad bytes) :=
  (unlessFaulted_of_not_faulted h _).trans (if_neg (Nat.not_lt.mpr hlen))

/-- `load` writes memory alone. -/
theorem Machine.State.afterLoad_eq (s : State) (bytes : List Byte) :
    s.afterLoad bytes = { s with mem := (s.afterLoad bytes).mem } :=
  congrArg (fun t : State => t.writeWord resetVector loadBase) (s.copyTo_eq loadBase bytes)

theorem Machine.State.afterLoad_mode (s : State) (bytes : List Byte) : (s.afterLoad bytes).mode = s.mode := by
  rw [State.afterLoad_eq]

theorem Machine.State.wf_afterLoad {s : State} (h : Memory.wf s.mem = true) (bytes : List Byte) :
    Memory.wf (s.afterLoad bytes).mem = true :=
  State.wf_write (State.wf_write (State.wf_copyTo h loadBase bytes) _ _) _ _

/-- The vector holds the base of the image, whatever the image has there. -/
theorem Machine.State.readWord_afterLoad {s : State} (h : Memory.wf s.mem = true) (bytes : List Byte) :
    (s.afterLoad bytes).readWord resetVector = loadBase :=
  State.readWord_writeWord (State.wf_copyTo h loadBase bytes) resetVector loadBase

/-- The bytes `load` leaves outside the vector. -/
theorem Machine.State.read_afterLoad {s : State} (h : Memory.wf s.mem = true) {bytes : List Byte}
    (hlen : bytes.length ≤ 0x8000) {k : Addr} (hlow : k ≠ resetVector) (hhigh : k ≠ resetVector + 1#16) :
    (s.afterLoad bytes).read k = bytes[(k - loadBase).toNat]?.getD (s.read k) := by
  rw [State.afterLoad, State.read_writeWord (State.wf_copyTo h loadBase bytes), if_neg hhigh, if_neg hlow,
    State.read_copyTo h (by omega)]

/-- Byte `n` of the image lies at 0x8000 + `n`, unless the vector is there. -/
theorem Machine.State.read_afterLoad_image {s : State} (h : Memory.wf s.mem = true) {bytes : List Byte}
    (hlen : bytes.length ≤ 0x8000) {n : Nat} {b : Byte} (hb : bytes[n]? = some b) (hlow : n ≠ 0x7FFC)
    (hhigh : n ≠ 0x7FFD) : (s.afterLoad bytes).read (BitVec.ofNat 16 (0x8000 + n)) = b := by
  obtain ⟨hn, -⟩ := List.getElem?_eq_some_iff.mp hb
  have hdist : (BitVec.ofNat 16 (0x8000 + n) - 0x8000#16).toNat = n := by bv_omega
  have hnotLow : BitVec.ofNat 16 (0x8000 + n) ≠ 0xFFFC#16 := by bv_omega
  have hnotHigh : BitVec.ofNat 16 (0x8000 + n) ≠ 0xFFFD#16 := by bv_omega
  rw [State.read_afterLoad h hlen hnotLow hnotHigh, loadBase, hdist, hb, Option.getD_some]

/-- Below the image and above it, and outside the vector, memory is as before. -/
theorem Machine.State.read_afterLoad_outside {s : State} (h : Memory.wf s.mem = true) {bytes : List Byte}
    (hlen : bytes.length ≤ 0x8000) {k : Addr} (hlow : k ≠ resetVector) (hhigh : k ≠ resetVector + 1#16)
    (hk : k.toNat < 0x8000 ∨ 0x8000 + bytes.length ≤ k.toNat) : (s.afterLoad bytes).read k = s.read k := by
  have hdist : bytes.length ≤ (k - 0x8000#16).toNat := by bv_omega
  rw [State.read_afterLoad h hlen hlow hhigh, loadBase, List.getElem?_eq_none hdist, Option.getD_none]

/-- Settles O57: the vector is written last, and elsewhere the image is read back where it was copied. -/
theorem loadPlacesTheImageAndTheVector : Obligations.LoadPlacesTheImageAndTheVector := by
  intro s bytes hmode hwf hlen
  have hcopied : Memory.wf (s.copyTo loadBase bytes).mem = true := State.wf_copyTo hwf loadBase bytes
  refine ⟨s.afterLoad bytes, hostLoad_of_fits hmode hlen, s.afterLoad_eq bytes, State.wf_afterLoad hwf bytes, ?_, ?_,
    fun n b hb => State.read_afterLoad_image hwf hlen hb, fun k => State.read_afterLoad_outside hwf hlen⟩
  · exact State.read_writeWord_low hcopied resetVector loadBase
  · exact State.read_writeWord_high hcopied resetVector loadBase

/-! ### Load, reset, run (R373, R378) -/

/-- `load_and_run` runs from where its `load` and its `reset` lead. -/
theorem hostLoadAndRun_of_load_reset {s t u : State} {bytes : List Byte} (hload : hostLoad bytes s = .next t)
    (hreset : hostReset t = .next u) (fuel : Nat) : hostLoadAndRun fuel bytes s = hostRun fuel u := by
  simp only [hostLoadAndRun, hload, hreset]

/-- Settles O58: `reset` takes PC from the vector that `load` has just written. -/
theorem loadThenResetStartsAtTheImage : Obligations.LoadThenResetStartsAtTheImage := by
  intro s bytes hmode hwf hlen
  have hload : hostLoad bytes s = .next (s.afterLoad bytes) := hostLoad_of_fits hmode hlen
  have hreset : hostReset (s.afterLoad bytes) = .next (s.afterLoad bytes).afterReset :=
    hostReset_of_not_faulted (by rwa [State.afterLoad_mode])
  exact ⟨_, _, hload, hreset, State.readWord_afterLoad hwf bytes, rfl, rfl, rfl, rfl, State.afterReset_status _, rfl,
    rfl, hostLoadAndRun_of_load_reset hload hreset⟩

end Sys2Proof
end
